-- ==== Sys2Proof/Word.lean ====
section
/-! DEFINITION. The two word types of the block (rules R6, R8): the 8-bit data byte and the 16-bit
address and register pair, with the two halves of a pair (rule R100). -/

namespace Sys2Proof

/-- A byte, the spec's `u8` (rule R8). -/
abbrev Byte := BitVec 8

/-- A 16-bit word, the spec's `u16` (rule R8): SP, PC, the register pairs and bus addresses. -/
abbrev Word := BitVec 16

/-- The high half of a pair: B of BC, D of DE, H of HL, A of AF (rule R100). -/
def Word.hi (w : Word) : Byte := w.extractLsb' 8 8

/-- The low half of a pair (rule R100). -/
def Word.lo (w : Word) : Byte := w.extractLsb' 0 8

/-- The concatenation `hi:lo` of two bytes (rule R8). -/
def Word.ofBytes (hi lo : Byte) : Word := hi ++ lo

/-- `sext_16` of a displacement byte (rules R8, R302). -/
def Word.sext (e : Byte) : Word := e.signExtend 16

end Sys2Proof
end

