-- ==== Sys2Proof/Config.lean ====
section
/-! DEFINITION. What is fixed for one machine: the named parameters of rule R7 as plain data
(`Params`, with the defaults the spec gives), the architecture's constants, and the free values,
which the spec leaves to whoever supplies the boot ROM and the cartridge. -/

namespace Sys2Proof

/-- The PPU mode, `HBlank=0, VBlank=1, OAMScan=2, Drawing=3` (rule R801). -/
inductive Mode where
  | hblank | vblank | oamScan | drawing
  deriving DecidableEq, Repr

/-- What can happen to the cartridge device (rule R240): the block's calls of `CART`, and the host's
time, on which an RTC's reads depend. -/
inductive CartEvent where
  /-- `CART.read(a)`. -/
  | read (a : Nat)
  /-- `CART.write(a, v)`. -/
  | write (a : Nat) (v : Byte)
  /-- `CART.reset()` (rule R904). -/
  | reset
  /-- The host's time has become `now`: a draw, which the host's input gives (rule R240). -/
  | hostTime (now : Nat)
  deriving DecidableEq, Repr

/-- An event of the cartridge device and the T-cycle, counted since reset, it falls in. -/
structure CartAccess where
  clock : Nat
  event : CartEvent
  deriving DecidableEq, Repr

/-- The named parameters of rule R7 that are not host inputs, as plain data. -/
structure Params where
  /-- `STOP_RESETS_DIV` (D9). -/
  stopResetsDiv : Bool
  /-- `FASTBOOT_DIV_COUNTER` (D30). -/
  fastbootDivCounter : Word
  /-- `FASTBOOT_PPU_POS` (D31): the line, dot and mode of the PPU after a fast boot. -/
  fastbootLine : Nat
  fastbootDot : Nat
  fastbootMode : Mode
  /-- `OBP_FASTBOOT` (D32). -/
  obpFastboot : Byte
  /-- `APU_READ` (D46): the addresses listed read as listed, every other one as 0xFF. -/
  apuRead : List Host.Cell
  /-- `BOOT_ROM` (D28): the image supplied, from address 0 up. A byte past its end is the free
  value `Config.bootRom`. -/
  bootRom : List Byte
  /-- `RAM_INIT` as drawn at the last reset (rule R903, D29): the WRAM and HRAM bytes that are not
  zero. The draw comes with the reset, and each reset replaces it. -/
  ramInit : List Host.Cell
  deriving DecidableEq, Repr

/-- The defaults the spec gives the parameters (files 00_scope.md R7, 92_eei_decisions.md). -/
def Params.default : Params where
  stopResetsDiv := false
  fastbootDivCounter := 0xABCC#16
  fastbootLine := 0
  fastbootDot := 0
  fastbootMode := .oamScan
  obpFastboot := 0xFF#8
  apuRead := []
  bootRom := []
  ramInit := []

/-- FREE VALUE. A byte of `BOOT_ROM` that no image supplies: "the boot ROM's content is not in any
source" (rule R910). -/
opaque Config.bootRom : Nat → Byte

/-- FREE VALUE. What `CART.read(a)` of a cartridge other than a NoMBC one returns, given all that has
happened to it and when, newest first, the read itself at the head (rule R240): "a read may depend on
the CART state and, for an RTC, on host time (a draw)". -/
opaque Config.cartRead : List CartAccess → Byte

/-- The bytes copied by one OAM DMA (rules R6, R231). -/
def Config.dmaLength : Nat := 160

/-- The T-cycles of a serial transfer under the internal clock (rule R871). -/
def Config.serialTransfer : Nat := 4096

/-- The T-cycles of the TIMA reload delay (rules R6, R764). -/
def Config.reloadDelay : Nat := 4

/-- The dots of a scanline (rule R800). -/
def Config.dotsPerLine : Nat := 456

/-- The scanlines of a frame, of which the first 144 are visible (rule R800). -/
def Config.linesPerFrame : Nat := 154

def Config.visibleLines : Nat := 144

/-- The pixels of a visible line (rule R6). -/
def Config.lineWidth : Nat := 160

/-- The entries a pixel FIFO may hold (rules R6, R124). -/
def Config.fifoCapacity : Nat := 16

/-- The sprites selected on one line, at most (rules R6, R810). -/
def Config.spritesPerLine : Nat := 10

end Sys2Proof
end

