-- ==== Sys2Proof/Machine/Memory.lean ====
section
/-! DEFINITION. The sparse store that holds the memory arrays (rule R127) and the framebuffer (rule
R851): a list of key and value pairs with strictly rising keys in which no value is the blank one,
which is what an unlisted key reads as. -/

namespace Sys2Proof.Machine

/-- A sparse store of `w`-bit values. -/
abbrev Cells (w : Nat) := List (Nat × BitVec w)

/-- The memory arrays of the block and its bus, keyed by bus address (rule R127). -/
abbrev Memory := Cells 8

/-- What an unlisted key reads as: 0. VRAM and OAM are zeroed at reset (rule R903); for WRAM, HRAM
and the cartridge it is a DESIGN CHOICE (assumption log 2). -/
def Cells.unlisted (w : Nat) : BitVec w := 0#w

/-- The value at a key. -/
def Cells.read {w : Nat} : Cells w → Nat → BitVec w
  | [], _ => Cells.unlisted w
  | (k, v) :: m, a => if k = a then v else Cells.read m a

/-- The store with no entry for a key. -/
def Cells.erase {w : Nat} : Cells w → Nat → Cells w
  | [], _ => []
  | (k, v) :: m, a => if k = a then Cells.erase m a else (k, v) :: Cells.erase m a

/-- The store with an entry at its place in the rising order. -/
def Cells.insert {w : Nat} : Cells w → Nat → BitVec w → Cells w
  | [], a, x => [(a, x)]
  | (k, v) :: m, a, x =>
    if k < a then (k, v) :: Cells.insert m a x
    else if k = a then (a, x) :: m
    else (a, x) :: (k, v) :: m

/-- Write a value at a key, keeping the canonical form: the blank value removes the entry. -/
def Cells.write {w : Nat} (m : Cells w) (a : Nat) (x : BitVec w) : Cells w :=
  if x = Cells.unlisted w then Cells.erase m a else Cells.insert m a x

/-- The canonical form: keys strictly rising, all of them above `lo` when it is given, and no value
blank. -/
def Cells.wfFrom {w : Nat} : Option Nat → Cells w → Bool
  | _, [] => true
  | lo, (k, v) :: m =>
    (match lo with
      | none => true
      | some l => decide (l < k))
    && decide (v ≠ Cells.unlisted w) && Cells.wfFrom (some k) m

/-- The canonical form of a store: equal stores are equal lists. -/
def Cells.wf {w : Nat} (m : Cells w) : Bool := Cells.wfFrom none m

/-- The canonical form of memory. -/
abbrev Memory.wf (m : Memory) : Bool := Cells.wf m

/-- A store with the entries of another written over it, but for those a test shuts out. -/
def Cells.overlay {w : Nat} (keep : Nat → Bool) (m : Cells w) : Cells w → Cells w
  | [] => m
  | (k, v) :: r =>
    if keep k then Cells.overlay keep (Cells.write m k v) r else Cells.overlay keep m r

/-- The entries of a store whose keys pass a test. -/
def Cells.restrict {w : Nat} (keep : Nat → Bool) : Cells w → Cells w
  | [] => []
  | (k, v) :: m => if keep k then (k, v) :: Cells.restrict keep m else Cells.restrict keep m

/-- Every key of a store passes a test. -/
def Cells.keysIn {w : Nat} (ok : Nat → Bool) (m : Cells w) : Bool := m.all (fun e => ok e.1)

/-! The storage ranges of the bus decode (rule R201). -/

/-- 0x0000–0x7FFF, cartridge ROM. -/
def inCartRom (n : Nat) : Bool := decide (n < 0x8000)

/-- 0x8000–0x9FFF, VRAM. -/
def inVram (n : Nat) : Bool := decide (0x8000 ≤ n) && decide (n < 0xA000)

/-- 0xA000–0xBFFF, cartridge RAM. -/
def inCartRam (n : Nat) : Bool := decide (0xA000 ≤ n) && decide (n < 0xC000)

/-- 0xC000–0xDFFF, WRAM. -/
def inWram (n : Nat) : Bool := decide (0xC000 ≤ n) && decide (n < 0xE000)

/-- 0xFE00–0xFE9F, OAM. -/
def inOam (n : Nat) : Bool := decide (0xFE00 ≤ n) && decide (n < 0xFEA0)

/-- 0xFF80–0xFFFE, HRAM. -/
def inHram (n : Nat) : Bool := decide (0xFF80 ≤ n) && decide (n < 0xFFFF)

/-- The addresses of the cartridge (rule R240). -/
def inCart (n : Nat) : Bool := inCartRom n || inCartRam n

/-- The addresses a memory entry may stand at: those that have storage of their own. The echo, the
I/O page, the unusable range and IE have none. -/
def inStorage (n : Nat) : Bool := inCart n || inVram n || inWram n || inOam n || inHram n

end Sys2Proof.Machine
end

