-- ==== Sys2Proof/Machine/State.lean ====
section
/-! DEFINITION. The state of the block as plain data (file 10_state.md, rules R100 to R130): the
CPU, the interrupt controller, the timer, the PPU, the OAM DMA unit, the memories, the register side
of the joypad and the serial port, the cartridge's interface and the host's inputs; the reasons a
step can stop; and the state after each of the two resets (rules R900 to R904). -/

namespace Sys2Proof.Machine

/-- The CPU: rules R100 to R109. -/
structure Cpu where
  a : Byte
  /-- F: Z (bit 7), N (6), H (5), C (4); bits 3..0 are hardwired to zero (rules R105, R106). -/
  f : Byte
  b : Byte
  c : Byte
  d : Byte
  e : Byte
  h : Byte
  l : Byte
  sp : Word
  pc : Word
  /-- The interrupt master enable (rule R107). -/
  ime : Bool
  /-- IME_PENDING, the deferred enable of EI (rule R108). -/
  imePending : Bool
  halted : Bool
  stopped : Bool
  haltBug : Bool
  /-- LOCKED, set by an illegal opcode (rules R109, R730). -/
  locked : Bool
  /-- The model's latch of the address the last opcode was fetched from: the `pc` that
  `IllegalOpcode(pc, byte)` records (rule R730; assumption log 6). -/
  opcodeAddr : Word
  /-- The byte that `IllegalOpcode(pc, byte)` recorded (rule R730). -/
  illegalByte : Byte
  deriving DecidableEq, Repr

/-- The two five-bit registers of the interrupt controller (rules R111, R700). -/
structure Interrupts where
  ie : BitVec 5
  ifr : BitVec 5
  deriving DecidableEq, Repr

/-- The Timer/DIV unit (rule R112). -/
structure Timer where
  counter : Word
  tima : Byte
  tma : Byte
  tac : BitVec 3
  /-- The T-cycles left in the reload delay, 0 when there is none. -/
  reload : Nat
  /-- The last value of the edge detector's input. -/
  tsig : Bool
  deriving DecidableEq, Repr

/-- The background and window fetcher's sub-states (rule R830). -/
inductive FetchState where
  | dummy | tileNumber | tileDataLow | tileDataHigh | push
  deriving DecidableEq, Repr

/-- A 2-bit colour index or shade. -/
abbrev Shade := BitVec 2

/-- An entry of the sprite FIFO, `(color, pal, bgpri)` (rule R830). -/
structure SpritePixel where
  color : Shade
  pal : Bool
  bgpri : Bool
  deriving DecidableEq, Repr

/-- The PPU: its registers (rules R120 to R123), its internal state (rules R124, R830) and the
framebuffer (rule R851). -/
structure Ppu where
  lcdc : Byte
  /-- STAT bits 6..3, the interrupt selects (rule R121). -/
  statSel : BitVec 4
  scy : Byte
  scx : Byte
  lyc : Byte
  bgp : Byte
  obp0 : Byte
  obp1 : Byte
  wy : Byte
  wx : Byte
  line : Nat
  dot : Nat
  mode : Mode
  wline : Nat
  wtrig : Bool
  /-- The OAM indices selected on this line, in OAM order. -/
  sprites : List Nat
  fst : FetchState
  fdot : Nat
  fx : Nat
  winmode : Bool
  tileNo : Byte
  lo : Byte
  hi : Byte
  taddr : Word
  /-- The BG FIFO, the next pixel first. -/
  bgq : List Shade
  /-- The sprite FIFO, the next pixel first. -/
  spq : List SpritePixel
  xOut : Nat
  discard : Nat
  sstall : Nat
  scur : Nat
  /-- The entries of `sprites` already fetched on this line. -/
  fetched : List Nat
  statline : Bool
  skipframe : Bool
  /-- `FB[y][x]` at key `160·y + x`. -/
  fb : Cells 2
  /-- The frames completed since reset: the count of `frame_done()` (rule R803). -/
  frames : Nat
  deriving DecidableEq, Repr

/-- The OAM DMA unit (rule R125). -/
structure Dma where
  reg : Byte
  active : Bool
  src : Word
  idx : Nat
  /-- A start requested in the current M-cycle (rules R125, R230). -/
  start : Bool
  deriving DecidableEq, Repr

/-- The joypad's register side and its input (rule R870). -/
structure Joypad where
  /-- P1[5:4], the select bits. -/
  select : BitVec 2
  /-- The last evaluated value of P1[3:0]. -/
  low : BitVec 4
  /-- `JOYPAD_INPUT`: bit 0 = A, 1 = B, 2 = Select, 3 = Start, 4 = Right, 5 = Left, 6 = Up,
  7 = Down, 1 = pressed (D45). -/
  input : Byte
  deriving DecidableEq, Repr

/-- The serial port's register side, its input and its output (rule R871). -/
structure Serial where
  sb : Byte
  /-- SC[7], transfer start. -/
  start : Bool
  /-- SC[0], internal clock. -/
  internal : Bool
  /-- The T-cycles left of the transfer, 0 when idle. -/
  countdown : Nat
  /-- `SERIAL_IN`: the byte a transfer receives. -/
  input : Byte
  /-- `serial_out`: the bytes appended for the host, oldest first. -/
  out : List Byte
  deriving DecidableEq, Repr

/-- What is plugged in (rules R240, R241). -/
inductive Cart where
  /-- The NoMBC controller of rule R241: 32 KiB ROM and, when `ram` is true, 8 KiB RAM; its bytes
  stand in memory at their bus addresses. -/
  | noMbc (ram : Bool)
  /-- Any other device, known by what has happened to it and when, newest first. -/
  | device (log : List CartAccess)
  deriving DecidableEq, Repr

/-- What the host gives at the start of one step (rules R900, R906, D45): "Commands (reset, key
state) are applied between instructions". -/
inductive HostInput where
  /-- Nothing. -/
  | none
  /-- `set_buttons(mask)`: the new `JOYPAD_INPUT`. -/
  | buttons (mask : Byte)
  /-- The new `SERIAL_IN`. -/
  | serialIn (v : Byte)
  /-- The host's time, which a cartridge's RTC reads (rule R240). -/
  | hostTime (now : Nat)
  /-- `reset(fast_boot)`, with the `RAM_INIT` drawn for this reset (rule R903). -/
  | reset (fastBoot : Bool) (ramInit : List Host.Cell)
  deriving DecidableEq, Repr

/-- The state of the block. -/
structure State where
  cpu : Cpu
  irq : Interrupts
  timer : Timer
  ppu : Ppu
  dma : Dma
  joypad : Joypad
  serial : Serial
  /-- The memory arrays of rule R127 and a NoMBC cartridge's bytes. -/
  mem : Memory
  cart : Cart
  /-- BOOT_MAPPED (rule R126). -/
  bootMapped : Bool
  /-- `FAST_BOOT`, the argument of the last reset (rule R900). -/
  fastBoot : Bool
  params : Params
  /-- What the host gives at the start of the coming steps, one entry a step. -/
  hostInputs : List HostInput
  /-- The T-cycles since reset, the model's own count (rule R941). -/
  clock : Nat
  deriving DecidableEq, Repr

/-- The reasons a step can stop as a fault. -/
inductive Fault where
  /-- The machine is LOCKED by the illegal opcode `byte` at address `pc` (rules R606, R730): "the
  step of the machine is a fault, not a state change". Raised by `step` on a LOCKED state. Safe: it
  is the spec's own fault. -/
  | illegalOpcode (pc : Word) (byte : Byte)
  deriving DecidableEq, Repr

/-- The reasons a step can refuse. -/
inductive Refusal where
  /-- An instruction that has no meaning in the model yet, by its mnemonic. Raised by `exec`; no arm
  of this model raises it. Safe: nothing is claimed of the instruction. -/
  | notModelled (mnemonic : String)
  deriving DecidableEq, Repr

/-- The outcome of an instruction or a step. -/
abbrev Result := Host.Outcome State Fault Refusal

/-- The CPU after reset (rules R102 to R109, R901). -/
def Cpu.reset (fastBoot : Bool) : Cpu where
  a := if fastBoot then 0x01#8 else 0x00#8
  f := if fastBoot then 0xB0#8 else 0x00#8
  b := 0x00#8
  c := if fastBoot then 0x13#8 else 0x00#8
  d := 0x00#8
  e := if fastBoot then 0xD8#8 else 0x00#8
  h := if fastBoot then 0x01#8 else 0x00#8
  l := if fastBoot then 0x4D#8 else 0x00#8
  sp := if fastBoot then 0xFFFE#16 else 0x0000#16
  pc := if fastBoot then 0x0100#16 else 0x0000#16
  ime := false
  imePending := false
  halted := false
  stopped := false
  haltBug := false
  locked := false
  opcodeAddr := 0x0000#16
  illegalByte := 0x00#8

/-- IE and IF after reset (rules R110, R902). -/
def Interrupts.reset (fastBoot : Bool) : Interrupts where
  ie := 0#5
  ifr := if fastBoot then 1#5 else 0#5

/-- The timer after reset (rules R112, R902). -/
def Timer.reset (p : Params) (fastBoot : Bool) : Timer where
  counter := if fastBoot then p.fastbootDivCounter else 0x0000#16
  tima := 0x00#8
  tma := 0x00#8
  tac := 0#3
  reload := 0
  tsig := false

/-- The PPU after reset (rules R110, R120 to R124, R902). -/
def Ppu.reset (p : Params) (fastBoot : Bool) : Ppu where
  lcdc := if fastBoot then 0x91#8 else 0x00#8
  statSel := 0#4
  scy := 0x00#8
  scx := 0x00#8
  lyc := 0x00#8
  bgp := if fastBoot then 0xFC#8 else 0x00#8
  obp0 := if fastBoot then p.obpFastboot else 0x00#8
  obp1 := if fastBoot then p.obpFastboot else 0x00#8
  wy := 0x00#8
  wx := 0x00#8
  line := if fastBoot then p.fastbootLine else 0
  dot := if fastBoot then p.fastbootDot else 0
  mode := if fastBoot then p.fastbootMode else .hblank
  wline := 0
  wtrig := false
  sprites := []
  fst := .dummy
  fdot := 0
  fx := 0
  winmode := false
  tileNo := 0x00#8
  lo := 0x00#8
  hi := 0x00#8
  taddr := 0x0000#16
  bgq := []
  spq := []
  xOut := 0
  discard := 0
  sstall := 0
  scur := 0
  fetched := []
  statline := false
  skipframe := false
  fb := []
  frames := 0

/-- The DMA unit after reset (rules R125, R902). -/
def Dma.reset (fastBoot : Bool) : Dma where
  reg := if fastBoot then 0xFF#8 else 0x00#8
  active := false
  src := 0x0000#16
  idx := 0
  start := false

/-- The joypad after reset (rules R110, R902), with the keys the host holds. -/
def Joypad.reset (input : Byte) : Joypad where
  select := 0#2
  low := 0xF#4
  input := input

/-- The serial port after reset (rules R110, R902), with the host's input and output. -/
def Serial.reset (input : Byte) (out : List Byte) : Serial where
  sb := 0x00#8
  start := false
  internal := false
  countdown := 0
  input := input
  out := out

/-- Memory after reset (rules R903, R904): VRAM and OAM zero, WRAM and HRAM the `RAM_INIT` drawn, the
cartridge's bytes as they are. -/
def Memory.reset (ramInit : List Host.Cell) (m : Memory) : Memory :=
  Cells.overlay (fun n => inWram n || inHram n) (Cells.restrict inCart m) ramInit

/-- What an event at a T-cycle does to the cartridge (rule R240): a NoMBC one has no state of its own
besides its bytes, any other device is told. -/
def Cart.tell (clock : Nat) (e : CartEvent) : Cart → Cart
  | .noMbc ram => .noMbc ram
  | .device log => .device (⟨clock, e⟩ :: log)

/-- `reset(fast_boot)` (rules R900, R903, R904): every state element takes its reset value, `RAM_INIT` the
one "drawn once per reset", and `CART.reset()` is called; the other parameters, the cartridge's content
and the host's side stay. -/
def State.resetFrom (fastBoot : Bool) (ramInit : List Host.Cell) (s : State) : State where
  cpu := Cpu.reset fastBoot
  irq := Interrupts.reset fastBoot
  timer := Timer.reset s.params fastBoot
  ppu := Ppu.reset s.params fastBoot
  dma := Dma.reset fastBoot
  joypad := Joypad.reset s.joypad.input
  serial := Serial.reset s.serial.input s.serial.out
  mem := Memory.reset ramInit s.mem
  cart := s.cart.tell s.clock .reset
  bootMapped := !fastBoot
  fastBoot := fastBoot
  params := { s.params with ramInit := ramInit }
  hostInputs := s.hostInputs
  clock := 0

/-- The state after a reset from nothing, with the default parameters, no key pressed, no serial
partner and a blank NoMBC cartridge with RAM (assumption log 1, 2, 3). -/
def State.resetAt (fastBoot : Bool) : State where
  cpu := Cpu.reset fastBoot
  irq := Interrupts.reset fastBoot
  timer := Timer.reset Params.default fastBoot
  ppu := Ppu.reset Params.default fastBoot
  dma := Dma.reset fastBoot
  joypad := Joypad.reset 0x00#8
  serial := Serial.reset 0xFF#8 []
  mem := []
  cart := .noMbc true
  bootMapped := !fastBoot
  fastBoot := fastBoot
  params := Params.default
  hostInputs := []
  clock := 0

/-- The machine right after reset: the fast boot, `reset(true)` (rules R900 to R903, R911;
assumption log 1). -/
def State.reset : State := State.resetAt true

end Sys2Proof.Machine
end

