-- ==== Sys2Proof/Machine/Devices.lean ====
section
/-! DEFINITION. The interrupt controller's registers (rules R111, R700, R701) and the register side
of the joypad and the serial port (rules R870, R871). -/

namespace Sys2Proof.Machine

/-- Interrupt source numbers (rule R701). -/
def srcVblank : Nat := 0

def srcStat : Nat := 1

def srcTimer : Nat := 2

def srcSerial : Nat := 3

def srcJoypad : Nat := 4

/-- `IF[i] <- 1` when the event happened (rule R701). -/
def Interrupts.request (i : Nat) (event : Bool) (q : Interrupts) : Interrupts :=
  if event then { q with ifr := q.ifr ||| (1#5 <<< i) } else q

/-- `IF[i] <- 0` (rule R711). -/
def Interrupts.acknowledge (i : Nat) (q : Interrupts) : Interrupts :=
  { q with ifr := q.ifr &&& ~~~(1#5 <<< i) }

/-- `pend = IE & IF & 0x1F` (rule R700). -/
def Interrupts.pending (q : Interrupts) : BitVec 5 := q.ie &&& q.ifr

/-- "the lowest-index pending bit" (rule R711). -/
def Interrupts.lowest (q : Interrupts) : Nat :=
  if q.pending.getLsbD 0 then 0
  else if q.pending.getLsbD 1 then 1
  else if q.pending.getLsbD 2 then 2
  else if q.pending.getLsbD 3 then 3
  else 4

/-- A five-bit register as it reads: "upper bits always read as 1" (rule R111). -/
def Interrupts.reads (r : BitVec 5) : Byte := 0xE0#8 ||| r.setWidth 8

/-- A CPU write to IF (rules R111, R701). -/
def Interrupts.writeIf (v : Byte) (q : Interrupts) : Interrupts :=
  { q with ifr := v.setWidth 5 }

/-- A CPU write to IE (rule R111). -/
def Interrupts.writeIe (v : Byte) (q : Interrupts) : Interrupts :=
  { q with ie := v.setWidth 5 }

/-- P1[3:0] as the selected, active-low inputs give it (rule R870). -/
def Joypad.lines (j : Joypad) : BitVec 4 :=
  let buttons := if j.select.getLsbD 1 then 0xF#4 else ~~~(j.input.extractLsb' 0 4)
  let dpad := if j.select.getLsbD 0 then 0xF#4 else ~~~(j.input.extractLsb' 4 4)
  buttons &&& dpad

/-- P1 as it reads, `0xC0 | (P1[5:4] << 4) | low` (rule R870). -/
def Joypad.readP1 (j : Joypad) : Byte := 0b11#2 ++ j.select ++ j.lines

/-- Evaluate P1[3:0]: any 1 → 0 transition requests the interrupt (rule R870). -/
def Joypad.evaluate (j : Joypad) : Joypad × Bool :=
  ({ j with low := j.lines }, decide (j.low &&& ~~~j.lines ≠ 0#4))

/-- A CPU write to P1 (rule R870). -/
def Joypad.writeP1 (v : Byte) (j : Joypad) : Joypad × Bool :=
  Joypad.evaluate { j with select := v.extractLsb' 4 2 }

/-- The serial slot of a T-cycle (rule R871): the port, and whether its transfer completes. -/
def Serial.step (p : Serial) : Serial × Bool :=
  if p.countdown = 0 then (p, false)
  else if p.countdown = 1 then
    ({ p with countdown := 0, sb := p.input, start := false }, true)
  else ({ p with countdown := p.countdown - 1 }, false)

/-- A CPU write to SC (rule R871). A write that starts no internal-clock transfer leaves none running
(assumption log 8). -/
def Serial.writeSc (v : Byte) (p : Serial) : Serial :=
  if v.getLsbD 7 && v.getLsbD 0 then
    { p with
      start := true, internal := true, countdown := Config.serialTransfer, out := p.out ++ [p.sb] }
  else { p with start := v.getLsbD 7, internal := v.getLsbD 0, countdown := 0 }

/-- SC as it reads, `0x7E | SC[7] << 7 | SC[0]` (rule R871). -/
def Serial.readSc (p : Serial) : Byte :=
  BitVec.ofBool p.start ++ 0b111111#6 ++ BitVec.ofBool p.internal

end Sys2Proof.Machine
end

