-- ==== Sys2Proof/Machine/Ppu.lean ====
section
/-! DEFINITION. The PPU: position, modes and LY (rules R800 to R803), the OAM scan (rule R810), the
STAT line (rules R822 to R824), the fetchers, FIFOs, sprites, window and pixel composition (rules
R830 to R850), and the LCD turned off and on (rules R860, R861). The PPU reads VRAM and OAM with no
blocking (rule R863). -/

namespace Sys2Proof.Machine

/-- LCDC bit 7, LCD and PPU enable (rule R120). -/
def Ppu.lcdOn (p : Ppu) : Bool := p.lcdc.getLsbD 7

/-- LY as reported (rule R802). -/
def Ppu.ly (p : Ppu) : Nat :=
  if !p.lcdOn then 0
  else if p.line = 153 ∧ p.dot = 455 then 0
  else p.line

/-- LY as it reads (rule R123). -/
def Ppu.readLy (p : Ppu) : Byte := BitVec.ofNat 8 p.ly

/-- `coinc = (LY = LYC)` (rule R822). -/
def Ppu.coincidence (p : Ppu) : Bool := decide (p.ly = p.lyc.toNat)

/-- The mode's number (rule R801). -/
def Mode.number : Mode → BitVec 2
  | .hblank => 0#2
  | .vblank => 1#2
  | .oamScan => 2#2
  | .drawing => 3#2

/-- STAT as it reads, `0x80 | sel[6:3] | coinc << 2 | mode` (rule R121). -/
def Ppu.readStat (p : Ppu) : Byte :=
  1#1 ++ p.statSel ++ BitVec.ofBool p.coincidence ++ Mode.number p.mode

/-- The shared STAT line, the OR of the enabled sources (rule R823). -/
def Ppu.statLevel (p : Ppu) : Bool :=
  p.lcdOn &&
    (p.statSel.getLsbD 3 && p.coincidence
      || p.statSel.getLsbD 2 && decide (p.mode = .oamScan)
      || p.statSel.getLsbD 1 && decide (p.mode = .vblank)
      || p.statSel.getLsbD 0 && decide (p.mode = .hblank))

/-- `update_ly_coinc_stat()` (rule R823): the PPU, and whether the line rises. -/
def Ppu.updateStat (p : Ppu) : Ppu × Bool :=
  ({ p with statline := p.statLevel }, !p.statline && p.statLevel)

/-! The OAM scan and the tile addresses. -/

/-- A byte of VRAM or OAM as the PPU reads it, by its bus address. -/
def Ppu.vread (mem : Memory) (a : Nat) : Byte := Cells.read mem a

/-- A byte of OAM by its offset (file 60, section 7). -/
def Ppu.oam (mem : Memory) (i : Nat) : Byte := Cells.read mem (0xFE00 + i)

/-- The sprite height LCDC[2] selects (rule R810). -/
def Ppu.spriteHeight (p : Ppu) : Nat := if p.lcdc.getLsbD 2 then 16 else 8

/-- `Y ≤ LY + 16 < Y + sprite_height` for OAM entry `n` (rule R810). -/
def Ppu.onLine (mem : Memory) (n : Nat) (p : Ppu) : Bool :=
  let y := (Ppu.oam mem (4 * n)).toNat
  decide (y ≤ p.ly + 16) && decide (p.ly + 16 < y + p.spriteHeight)

/-- `oam_scan_step(d)` (rule R810). -/
def Ppu.oamScanStep (mem : Memory) (p : Ppu) : Ppu :=
  let n := p.dot / 2
  if p.dot % 2 = 0 ∧ n < 40 ∧ p.sprites.length < Config.spritesPerLine ∧ Ppu.onLine mem n p = true
  then { p with sprites := p.sprites ++ [n] }
  else p

/-- `base(b)` of a tile map (rule R832). -/
def Ppu.mapBase (b : Bool) : Nat := if b then 0x9C00 else 0x9800

/-- `map_addr()` (rule R832). -/
def Ppu.mapAddr (p : Ppu) : Nat :=
  if p.winmode then
    Ppu.mapBase (p.lcdc.getLsbD 6) + 32 * (p.wline / 8) + p.fx % 32
  else
    Ppu.mapBase (p.lcdc.getLsbD 3) + 32 * (((p.ly + p.scy.toNat) % 256) / 8)
      + (p.scx.toNat / 8 + p.fx) % 32

/-- `tile_addr(t)` (rule R833). -/
def Ppu.tileAddr (t : Byte) (p : Ppu) : Word :=
  if p.lcdc.getLsbD 4 then 0x8000#16 + 16#16 * t.setWidth 16
  else 0x9000#16 + 16#16 * Word.sext t

/-- `fine_row()` (rule R833). -/
def Ppu.fineRow (p : Ppu) : Nat :=
  if p.winmode then p.wline % 8 else (p.ly + p.scy.toNat) % 8

/-- The colour index `(hi[b] << 1) | lo[b]` (rule R833). -/
def Ppu.colorIndex (hi lo : Byte) (b : Nat) : Shade :=
  BitVec.ofBool (hi.getLsbD b) ++ BitVec.ofBool (lo.getLsbD b)

/-- The eight pixels of a fetched row, leftmost first (rule R831). -/
def Ppu.rowPixels (hi lo : Byte) : List Shade :=
  [Ppu.colorIndex hi lo 7, Ppu.colorIndex hi lo 6, Ppu.colorIndex hi lo 5, Ppu.colorIndex hi lo 4,
    Ppu.colorIndex hi lo 3, Ppu.colorIndex hi lo 2, Ppu.colorIndex hi lo 1, Ppu.colorIndex hi lo 0]

/-! The background and window fetcher. -/

/-- Count a dot of a fetcher sub-state that lasts `n` dots, then go to the next (rule R831). -/
def Ppu.countDot (n : Nat) (next : FetchState) (p : Ppu) : Ppu :=
  if p.fdot + 1 = n then { p with fst := next, fdot := 0 } else { p with fdot := p.fdot + 1 }

/-- The tile-number read, on the first dot of its sub-state. -/
def Ppu.readTileNumber (mem : Memory) (p : Ppu) : Ppu :=
  if p.fdot = 0 then { p with tileNo := Ppu.vread mem p.mapAddr } else p

/-- The low bit-plane read, on the first dot of its sub-state. -/
def Ppu.readTileLow (mem : Memory) (p : Ppu) : Ppu :=
  if p.fdot = 0 then
    let a := p.tileAddr p.tileNo + BitVec.ofNat 16 (2 * p.fineRow)
    { p with taddr := a, lo := Ppu.vread mem a.toNat }
  else p

/-- The high bit-plane read, on the first dot of its sub-state. -/
def Ppu.readTileHigh (mem : Memory) (p : Ppu) : Ppu :=
  if p.fdot = 0 then { p with hi := Ppu.vread mem (p.taddr + 1#16).toNat } else p

/-- Push, which waits for an empty BG FIFO (rule R831). -/
def Ppu.pushRow (p : Ppu) : Ppu :=
  if p.bgq.isEmpty then
    { p with
      bgq := Ppu.rowPixels p.hi p.lo, fx := p.fx + 1, fst := .tileNumber, fdot := 0 }
  else p

/-- `fetcher_step()` (rule R831). -/
def Ppu.fetcherStep (mem : Memory) (p : Ppu) : Ppu :=
  match p.fst with
  | .dummy => p.countDot 6 .tileNumber
  | .tileNumber => (p.readTileNumber mem).countDot 2 .tileDataLow
  | .tileDataLow => (p.readTileLow mem).countDot 2 .tileDataHigh
  | .tileDataHigh => (p.readTileHigh mem).countDot 2 .push
  | .push => p.pushRow

/-! Sprites and the window. -/

/-- An entry of the line's list that a trigger at this column takes (rule R840). -/
def Ppu.triggers (mem : Memory) (p : Ppu) (n : Nat) : Bool :=
  !p.fetched.contains n && decide ((Ppu.oam mem (4 * n + 1)).toNat ≤ p.xOut + 8)

/-- The entry `sprite_trigger()` takes, the one earliest in the list (rule R840). -/
def Ppu.nextSprite (mem : Memory) (p : Ppu) : Option Nat :=
  if p.lcdc.getLsbD 1 then p.sprites.find? (Ppu.triggers mem p) else none

/-- The start of a sprite fetch (rule R840). -/
def Ppu.startSprite (n : Nat) (p : Ppu) : Ppu :=
  { p with fetched := p.fetched ++ [n], scur := n, sstall := 5 }

/-- The sprite FIFO padded with transparent entries up to a length (rule R842). -/
def Ppu.padSprites (n : Nat) (q : List SpritePixel) : List SpritePixel :=
  q ++ List.replicate (n - q.length) ⟨0#2, false, false⟩

/-- `merge_sprite_pixel(sx, c, pal, pri)` (rule R842) with `sx + 8` for `sx`. A slot the FIFO does
not have, past its 16 entries (rules R124, R830), takes nothing (assumption log 9). -/
def Ppu.mergePixel (sx8 : Nat) (new : SpritePixel) (p : Ppu) : Ppu :=
  let s := sx8 - 8 - p.xOut
  if sx8 < p.xOut + 8 ∨ Config.fifoCapacity ≤ s then p
  else
    let q := Ppu.padSprites (s + 1) p.spq
    match q[s]? with
    | some old => if old.color = 0#2 then { p with spq := q.set s new } else { p with spq := q }
    | none => p

/-- The row of a sprite's tile that the line shows (rule R841). -/
def Ppu.spriteRow (y attr : Byte) (p : Ppu) : Nat :=
  let h := p.spriteHeight
  let r := ((BitVec.ofNat 16 (p.ly + 16) - y.setWidth 16) &&& BitVec.ofNat 16 (h - 1)).toNat
  if attr.getLsbD 6 then h - 1 - r else r

/-- The address of a sprite's row in VRAM (rule R841). -/
def Ppu.spriteAddr (y tile attr : Byte) (p : Ppu) : Nat :=
  let t := if p.lcdc.getLsbD 2 then tile &&& 0xFE#8 else tile
  0x8000 + 16 * t.toNat + 2 * p.spriteRow y attr

/-- The merge of pixels `k`, `k + 1`, … of a sprite's row, `n` of them (rule R841). -/
def Ppu.mergeRow (x : Nat) (attr hi lo : Byte) : Nat → Nat → Ppu → Ppu
  | 0, _, p => p
  | n + 1, k, p =>
    let bit := if attr.getLsbD 5 then k else 7 - k
    Ppu.mergeRow x attr hi lo n (k + 1)
      (p.mergePixel (x + k) ⟨Ppu.colorIndex hi lo bit, attr.getLsbD 4, attr.getLsbD 7⟩)

/-- `sprite_fetch(n)` (rule R841). -/
def Ppu.spriteFetch (mem : Memory) (n : Nat) (p : Ppu) : Ppu :=
  let y := Ppu.oam mem (4 * n)
  let x := Ppu.oam mem (4 * n + 1)
  let tile := Ppu.oam mem (4 * n + 2)
  let attr := Ppu.oam mem (4 * n + 3)
  let a := p.spriteAddr y tile attr
  Ppu.mergeRow x.toNat attr (Ppu.vread mem (a + 1)) (Ppu.vread mem a) 8 0 p

/-- The condition of `window_trigger()` (rule R846). -/
def Ppu.windowStarts (p : Ppu) : Bool :=
  !p.winmode && p.lcdc.getLsbD 5 && decide (p.wy.toNat ≤ p.ly) && decide (p.wx.toNat ≤ p.xOut + 7)

/-- The restart of the fetcher on the window's first dot (rule R846). -/
def Ppu.startWindow (mem : Memory) (p : Ppu) : Ppu :=
  let q := { p with bgq := [], winmode := true, wtrig := true, fx := 0 }
  { q with
    tileNo := Ppu.vread mem q.mapAddr, fst := .tileNumber, fdot := 1
    discard := if q.wx.toNat < 7 then 7 - q.wx.toNat else q.discard }

/-! Pixels. -/

/-- The shade a palette gives a colour index, `(P >> (2·c)) & 3` (rule R850). -/
def Ppu.paletteShade (pal : Byte) (c : Shade) : Shade := (pal >>> (2 * c.toNat)).setWidth 2

/-- Whether the sprite pixel is the one shown (rule R843). -/
def Ppu.spriteShows (bc : Shade) (sp : SpritePixel) (p : Ppu) : Bool :=
  decide (sp.color ≠ 0#2) && p.lcdc.getLsbD 1 && !(sp.bgpri && decide (bc ≠ 0#2))

/-- `compose(bc, sp)` (rule R843). -/
def Ppu.compose (bc : Shade) (sp : Option SpritePixel) (p : Ppu) : Shade :=
  let c := if p.lcdc.getLsbD 0 then bc else 0#2
  let background := if p.lcdc.getLsbD 0 then Ppu.paletteShade p.bgp c else 0#2
  match sp with
  | none => background
  | some x =>
    if p.spriteShows c x then Ppu.paletteShade (if x.pal then p.obp1 else p.obp0) x.color
    else background

/-- The framebuffer key of a column of the current line (rule R851). -/
def Ppu.fbKey (p : Ppu) : Nat := Config.lineWidth * p.ly + p.xOut

/-- The output of a pixel (rule R835): shade 0 while `skipframe` (rule R861). -/
def Ppu.output (bc : Shade) (rest : List Shade) (p : Ppu) : Ppu :=
  let shade := if p.skipframe then 0#2 else p.compose bc p.spq.head?
  { p with
    bgq := rest, spq := p.spq.tail, fb := Cells.write p.fb p.fbKey shade, xOut := p.xOut + 1 }

/-- What a mode-3 dot does once the fetcher has taken its step (rule R835). -/
def Ppu.pixelStep (mem : Memory) (p : Ppu) : Ppu :=
  match p.bgq with
  | [] => p
  | bc :: rest =>
    if p.discard ≠ 0 then
      { p with bgq := rest, spq := p.spq.tail, discard := p.discard - 1 }
    else if p.windowStarts then p.startWindow mem
    else
      match p.nextSprite mem with
      | some n => p.startSprite n
      | none => p.output bc rest

/-- `mode3_dot()` (rule R835). -/
def Ppu.mode3Dot (mem : Memory) (p : Ppu) : Ppu :=
  if p.sstall = 0 then (p.fetcherStep mem).pixelStep mem
  else if p.sstall = 1 then Ppu.spriteFetch mem p.scur { p with sstall := 0 }
  else { p with sstall := p.sstall - 1 }

/-- `mode3_start()` (rule R830). -/
def Ppu.mode3Start (p : Ppu) : Ppu :=
  { p with
    bgq := [], spq := [], xOut := 0, fx := 0, winmode := false
    discard := p.scx.toNat % 8, fst := .dummy, fdot := 0, sstall := 0, fetched := [] }

/-! Position and modes. -/

/-- Mode 2 starts at dot 0 of a visible line (rules R801, R810). -/
def Ppu.enterScan (p : Ppu) : Ppu :=
  if p.line < Config.visibleLines ∧ p.dot = 0 then { p with mode := .oamScan, sprites := [] } else p

/-- Mode 3 starts at dot 80 of a visible line (rules R801, R830). -/
def Ppu.enterDrawing (p : Ppu) : Ppu :=
  if p.line < Config.visibleLines ∧ p.dot = 80 then { p.mode3Start with mode := .drawing } else p

/-- VBlank starts at dot 0 of line 144 (rules R801, R824). -/
def Ppu.vblankStarts (p : Ppu) : Bool := decide (p.line = Config.visibleLines ∧ p.dot = 0)

/-- Mode 1 starts, with the frame completed and the blank first frame over (rules R801, R803, R861). -/
def Ppu.enterVblank (p : Ppu) : Ppu :=
  if p.vblankStarts then { p with mode := .vblank, frames := p.frames + 1, skipframe := false } else p

/-- The window line counter starts again at line 0, dot 0 (rule R847). -/
def Ppu.restartWindowLines (p : Ppu) : Ppu :=
  if p.line = 0 ∧ p.dot = 0 then { p with wline := 0 } else p

/-- Mode changes at the start of a dot, in the rule's order (rule R801). -/
def Ppu.enterDot (p : Ppu) : Ppu :=
  p.enterScan.enterDrawing.enterVblank.restartWindowLines

/-- The work of the dot's mode (rules R801, R810, R835, R844). -/
def Ppu.modeWork (mem : Memory) (p : Ppu) : Ppu :=
  match p.mode with
  | .oamScan => p.oamScanStep mem
  | .drawing =>
    if p.xOut = Config.lineWidth then { p with mode := .hblank } else p.mode3Dot mem
  | .hblank => p
  | .vblank => p

/-- `dot_work(line, dot)` (rule R801): the PPU, and whether VBlank starts. -/
def Ppu.dotWork (mem : Memory) (p : Ppu) : Ppu × Bool :=
  (p.enterDot.modeWork mem, p.vblankStarts)

/-- The move to the next dot (rules R800, R847). -/
def Ppu.advance (p : Ppu) : Ppu :=
  if p.dot + 1 = Config.dotsPerLine then
    { p with
      dot := 0
      wline := if p.wtrig then p.wline + 1 else p.wline
      wtrig := false
      line := if p.line + 1 = Config.linesPerFrame then 0 else p.line + 1 }
  else { p with dot := p.dot + 1 }

/-- The PPU's slot of a T-cycle (rule R800): the PPU, whether it raises VBlank, and whether it raises
STAT. -/
def Ppu.step (mem : Memory) (p : Ppu) : Ppu × Bool × Bool :=
  if p.lcdOn then
    let w := p.advance.dotWork mem
    let u := w.1.updateStat
    (u.1, w.2, u.2)
  else (p, false, false)

/-! CPU writes to the PPU's registers (rule R862). -/

/-- The LCD turned off (rule R860). -/
def Ppu.turnOff (p : Ppu) : Ppu :=
  { p.mode3Start with
    line := 0, dot := 0, mode := .hblank, sprites := [], wtrig := false, statline := false }

/-- The LCD turned on (rule R861). -/
def Ppu.turnOn (mem : Memory) (p : Ppu) : Ppu :=
  { (Ppu.dotWork mem { p with line := 0, dot := 0, wline := 0 }).1 with skipframe := true }

/-- A CPU write to LCDC (rules R823, R860, R861): the PPU, and whether it raises STAT. -/
def Ppu.writeLcdc (mem : Memory) (v : Byte) (p : Ppu) : Ppu × Bool :=
  let q := { p with lcdc := v }
  let r :=
    if p.lcdOn && !v.getLsbD 7 then q.turnOff
    else if !p.lcdOn && v.getLsbD 7 then q.turnOn mem
    else q
  r.updateStat

/-- A CPU write to STAT, bits 6..3 (rules R121, R823). -/
def Ppu.writeStat (v : Byte) (p : Ppu) : Ppu × Bool :=
  Ppu.updateStat { p with statSel := v.extractLsb' 3 4 }

/-- A CPU write to LYC (rules R822, R823). -/
def Ppu.writeLyc (v : Byte) (p : Ppu) : Ppu × Bool :=
  Ppu.updateStat { p with lyc := v }

/-- VRAM is blocked to the CPU: LCD on and mode 3 (rule R220). -/
def Ppu.vramBlocked (p : Ppu) : Bool := p.lcdOn && decide (p.mode = .drawing)

/-- OAM is blocked to the CPU by the mode: LCD on and mode 2 or 3 (rule R221). -/
def Ppu.oamBlocked (p : Ppu) : Bool :=
  p.lcdOn && (decide (p.mode = .oamScan) || decide (p.mode = .drawing))

end Sys2Proof.Machine
end

