-- ==== Sys2Proof/Machine/Timer.lean ====
section
/-! DEFINITION. The Timer/DIV unit: the free-running counter, the TAC multiplexer with its
falling-edge detector, TIMA and the reload delay (rules R760 to R766). -/

namespace Sys2Proof.Machine

/-- The counter bit TAC selects: "bits {9, 3, 5, 7} for TAC 00..11" (rule R761). -/
def Timer.selectedBit (tac : BitVec 3) : Nat :=
  match tac.getLsbD 1, tac.getLsbD 0 with
  | false, false => 9
  | false, true => 3
  | true, false => 5
  | true, true => 7

/-- The edge detector's input, `TAC[2] & counter[b]` (rule R761). -/
def Timer.signal (t : Timer) : Bool :=
  t.tac.getLsbD 2 && t.counter.getLsbD (Timer.selectedBit t.tac)

/-- `tima_increment()` (rule R763). -/
def Timer.increment (t : Timer) : Timer :=
  if t.tima = 0xFF#8 then { t with tima := 0x00#8, reload := Config.reloadDelay }
  else { t with tima := t.tima + 1#8 }

/-- `edge_check()` (rule R761). -/
def Timer.edgeCheck (t : Timer) : Timer :=
  if t.tsig && !t.signal then { t.increment with tsig := false }
  else { t with tsig := t.signal }

/-- One T-cycle of the reload delay (rules R760, R764): the timer, and whether it raises its
interrupt. -/
def Timer.reloadStep (t : Timer) : Timer × Bool :=
  if t.reload = 0 then (t, false)
  else if t.reload = 1 then ({ t with reload := 0, tima := t.tma }, true)
  else ({ t with reload := t.reload - 1 }, false)

/-- The timer's slot of a T-cycle (rule R760): the timer, and whether it raises its interrupt. -/
def Timer.step (t : Timer) : Timer × Bool :=
  let r := t.reloadStep
  (Timer.edgeCheck { r.1 with counter := r.1.counter + 1#16 }, r.2)

/-- A DIV write, or STOP when `STOP_RESETS_DIV` is set (rule R762). -/
def Timer.clearCounter (t : Timer) : Timer :=
  Timer.edgeCheck { t with counter := 0x0000#16 }

/-- A TIMA write: inside the reload delay it cancels the reload (rule R765). -/
def Timer.writeTima (v : Byte) (t : Timer) : Timer :=
  { t with tima := v, reload := 0 }

/-- A TMA write (rule R765). -/
def Timer.writeTma (v : Byte) (t : Timer) : Timer :=
  { t with tma := v }

/-- A TAC write (rule R766). -/
def Timer.writeTac (v : Byte) (t : Timer) : Timer :=
  Timer.edgeCheck { t with tac := v.extractLsb' 0 3 }

/-- DIV as it reads (rule R130). -/
def Timer.div (t : Timer) : Byte := Word.hi t.counter

/-- TAC as it reads (rule R766). -/
def Timer.readTac (t : Timer) : Byte := 0xF8#8 ||| t.tac.setWidth 8

end Sys2Proof.Machine
end

