-- ==== Sys2Proof/Machine/Bus.lean ====
section
/-! DEFINITION. The 16-bit address space as the CPU sees it: the decode of rule R201, the I/O page
(rules R110, R203, R872, R873), the cartridge's interface (rule R240), the boot ROM overlay (rule
R202), and the blocking by the PPU and by OAM DMA (rules R214, R220, R221, R232). No access traps. -/

namespace Sys2Proof.Machine

/-- The targets of the bus decode (rule R201). -/
inductive Target where
  | cartridge | vram | wram | echo | oam | unusable | io | hram | ie
  deriving DecidableEq, Repr

/-- The bus decode: every address has exactly one target (rules R200, R201). -/
def decodeAddr (n : Nat) : Target :=
  if n < 0x8000 then .cartridge
  else if n < 0xA000 then .vram
  else if n < 0xC000 then .cartridge
  else if n < 0xE000 then .wram
  else if n < 0xFE00 then .echo
  else if n < 0xFEA0 then .oam
  else if n < 0xFF00 then .unusable
  else if n < 0xFF80 then .io
  else if n < 0xFFFF then .hram
  else .ie

/-- The registers of the I/O page (rule R110). -/
inductive IoReg where
  | p1 | sb | sc | div | tima | tma | tac | ifr | apu
  | lcdc | stat | scy | scx | ly | lyc | dma | bgp | obp0 | obp1 | wy | wx | boot
  | unmapped
  deriving DecidableEq, Repr

/-- The owner of an I/O page address (rules R110, R203, R873). -/
def ioReg (n : Nat) : IoReg :=
  if n = 0xFF00 then .p1
  else if n = 0xFF01 then .sb
  else if n = 0xFF02 then .sc
  else if n = 0xFF04 then .div
  else if n = 0xFF05 then .tima
  else if n = 0xFF06 then .tma
  else if n = 0xFF07 then .tac
  else if n = 0xFF0F then .ifr
  else if 0xFF10 ≤ n ∧ n < 0xFF40 then .apu
  else if n = 0xFF40 then .lcdc
  else if n = 0xFF41 then .stat
  else if n = 0xFF42 then .scy
  else if n = 0xFF43 then .scx
  else if n = 0xFF44 then .ly
  else if n = 0xFF45 then .lyc
  else if n = 0xFF46 then .dma
  else if n = 0xFF47 then .bgp
  else if n = 0xFF48 then .obp0
  else if n = 0xFF49 then .obp1
  else if n = 0xFF4A then .wy
  else if n = 0xFF4B then .wx
  else if n = 0xFF50 then .boot
  else .unmapped

/-- `APU_READ(addr)`: 0xFF where the parameter lists nothing (rule R872). -/
def apuRead : List Host.Cell → Nat → Byte
  | [], _ => 0xFF#8
  | (k, v) :: m, a => if k = a then v else apuRead m a

/-- What an I/O register reads as (rules R110, R203, R870 to R873). -/
def State.ioRead (n : Nat) (s : State) : Byte :=
  match ioReg n with
  | .p1 => s.joypad.readP1
  | .sb => s.serial.sb
  | .sc => s.serial.readSc
  | .div => s.timer.div
  | .tima => s.timer.tima
  | .tma => s.timer.tma
  | .tac => s.timer.readTac
  | .ifr => Interrupts.reads s.irq.ifr
  | .apu => apuRead s.params.apuRead n
  | .lcdc => s.ppu.lcdc
  | .stat => s.ppu.readStat
  | .scy => s.ppu.scy
  | .scx => s.ppu.scx
  | .ly => s.ppu.readLy
  | .lyc => s.ppu.lyc
  | .dma => s.dma.reg
  | .bgp => s.ppu.bgp
  | .obp0 => s.ppu.obp0
  | .obp1 => s.ppu.obp1
  | .wy => s.ppu.wy
  | .wx => s.ppu.wx
  | .boot => 0xFF#8
  | .unmapped => 0xFF#8

/-- A write to a PPU register, with the STAT request it may raise. -/
def State.setPpu (r : Ppu × Bool) (s : State) : State :=
  { s with ppu := r.1, irq := s.irq.request srcStat r.2 }

/-- A write to P1, with the request it may raise. -/
def State.setJoypad (r : Joypad × Bool) (s : State) : State :=
  { s with joypad := r.1, irq := s.irq.request srcJoypad r.2 }

/-- A CPU write to an I/O register (rules R110, R203, R213, R862, R870 to R873). -/
def State.ioWrite (n : Nat) (v : Byte) (s : State) : State :=
  match ioReg n with
  | .p1 => s.setJoypad (s.joypad.writeP1 v)
  | .sb => { s with serial := { s.serial with sb := v } }
  | .sc => { s with serial := s.serial.writeSc v }
  | .div => { s with timer := s.timer.clearCounter }
  | .tima => { s with timer := s.timer.writeTima v }
  | .tma => { s with timer := s.timer.writeTma v }
  | .tac => { s with timer := s.timer.writeTac v }
  | .ifr => { s with irq := s.irq.writeIf v }
  | .apu => s
  | .lcdc => s.setPpu (s.ppu.writeLcdc s.mem v)
  | .stat => s.setPpu (s.ppu.writeStat v)
  | .scy => { s with ppu := { s.ppu with scy := v } }
  | .scx => { s with ppu := { s.ppu with scx := v } }
  | .ly => s
  | .lyc => s.setPpu (s.ppu.writeLyc v)
  | .dma => { s with dma := { s.dma with reg := v, start := true } }
  | .bgp => { s with ppu := { s.ppu with bgp := v } }
  | .obp0 => { s with ppu := { s.ppu with obp0 := v } }
  | .obp1 => { s with ppu := { s.ppu with obp1 := v } }
  | .wy => { s with ppu := { s.ppu with wy := v } }
  | .wx => { s with ppu := { s.ppu with wx := v } }
  | .boot => { s with bootMapped := false }
  | .unmapped => s

/-- A byte of the boot ROM: the image's, or the free value past its end (rule R910). -/
def State.bootByte (n : Nat) (s : State) : Byte := s.params.bootRom.getD n (Config.bootRom n)

/-- `CART.read(a)` (rules R240, R241): a NoMBC cartridge gives the byte at `a`, or 0xFF where it has no
RAM; of any other device the value is free. -/
def State.cartRead (n : Nat) (s : State) : Byte × State :=
  match s.cart with
  | .noMbc ram =>
    (if inCartRom n || ram then Cells.read s.mem n else 0xFF#8, s)
  | .device log =>
    let log' := ⟨s.clock, .read n⟩ :: log
    (Config.cartRead log', { s with cart := .device log' })

/-- An event of the cartridge, at the T-cycle it falls in (rule R240). -/
def State.tellCart (e : CartEvent) (s : State) : State := { s with cart := s.cart.tell s.clock e }

/-- `CART.write(a, v)` of a write that no NoMBC RAM takes (rules R240, R241): a NoMBC cartridge has no
register, so it does nothing there; any other device is told. -/
def State.cartNotify (n : Nat) (v : Byte) (s : State) : State := s.tellCart (.write n v)

/-- A read of a cartridge address, with the boot ROM over 0x0000–0x00FF while BOOT_MAPPED (rule
R202). -/
def State.romRead (n : Nat) (s : State) : Byte × State :=
  if s.bootMapped && decide (n < 0x100) then (s.bootByte n, s) else s.cartRead n

/-- OAM DMA blocks a CPU access: a transfer is active and the address is outside HRAM (rule R232). -/
def State.dmaBlocks (n : Nat) (s : State) : Bool := s.dma.active && !inHram n

/-- One CPU bus read, at the start of its M-cycle (rules R10, R201, R214, R222). -/
def State.busRead (a : Word) (s : State) : Byte × State :=
  let n := a.toNat
  if s.dmaBlocks n then (0xFF#8, s)
  else
    match decodeAddr n with
    | .cartridge => s.romRead n
    | .vram => (if s.ppu.vramBlocked then 0xFF#8 else Cells.read s.mem n, s)
    | .wram => (Cells.read s.mem n, s)
    | .echo => (Cells.read s.mem (n - 0x2000), s)
    | .oam => (if s.ppu.oamBlocked then 0xFF#8 else Cells.read s.mem n, s)
    | .unusable => (0xFF#8, s)
    | .io => (s.ioRead n, s)
    | .hram => (Cells.read s.mem n, s)
    | .ie => (Interrupts.reads s.irq.ie, s)

/-- The key of memory a CPU write to an address is stored at, if it is stored in memory at all: the
echo's cell is WRAM's, and a dropped write, a write to a register and a write to a cartridge without
RAM there have none (rules R201, R220, R221, R232). -/
def State.storeKey (a : Word) (s : State) : Option Nat :=
  let n := a.toNat
  if s.dmaBlocks n then none
  else
    match decodeAddr n with
    | .cartridge =>
      match s.cart with
      | .noMbc ram => if inCartRam n && ram then some n else none
      | .device _ => none
    | .vram => if s.ppu.vramBlocked then none else some n
    | .wram => some n
    | .echo => some (n - 0x2000)
    | .oam => if s.ppu.oamBlocked then none else some n
    | .unusable => none
    | .io => none
    | .hram => some n
    | .ie => none

/-- A CPU write that memory does not take (rules R201, R203, R240): a register, the cartridge device,
or nothing. -/
def State.registerWrite (n : Nat) (v : Byte) (s : State) : State :=
  match decodeAddr n with
  | .cartridge => s.cartNotify n v
  | .vram => s
  | .wram => s
  | .echo => s
  | .oam => s
  | .unusable => s
  | .io => s.ioWrite n v
  | .hram => s
  | .ie => { s with irq := s.irq.writeIe v }

/-- One CPU bus write, at the start of its M-cycle (rules R10, R201, R214, R222). -/
def State.busWrite (a : Word) (v : Byte) (s : State) : State :=
  if s.dmaBlocks a.toNat then s
  else
    match s.storeKey a with
    | some k => { s with mem := Cells.write s.mem k v }
    | none => s.registerWrite a.toNat v

end Sys2Proof.Machine
end

