-- ==== Sys2Proof/Machine/Clock.lean ====
section
/-! DEFINITION. The scheduler: the slots of a T-cycle in the order Timer → DMA → PPU → Serial → APU →
Joypad, the OAM DMA unit, and the M-cycle of four T-cycles (rules R230 to R232, R905). -/

namespace Sys2Proof.Machine

/-- The timer's slot (rule R760). -/
def State.timerStep (s : State) : State :=
  let r := s.timer.step
  { s with timer := r.1, irq := s.irq.request srcTimer r.2 }

/-- `DmaRead(s)` (rule R231): the decode with no blocking below 0xE000, WRAM from there up. -/
def State.dmaRead (n : Nat) (s : State) : Byte × State :=
  if 0xE000 ≤ n then (Cells.read s.mem (0xC000 + (n - 0xE000) % 0x2000), s)
  else if inCart n then s.romRead n
  else (Cells.read s.mem n, s)

/-- The DMA unit's slot: one byte on the first T-cycle of an M-cycle (rule R231). -/
def State.dmaStep (t : Nat) (s : State) : State :=
  if s.dma.active = true ∧ t = 0 ∧ s.dma.idx < Config.dmaLength then
    let r := s.dmaRead (s.dma.src.toNat + s.dma.idx)
    { r.2 with
      mem := Cells.write s.mem (0xFE00 + s.dma.idx) r.1
      dma := { s.dma with idx := s.dma.idx + 1 } }
  else s

/-- The PPU's slot (rule R800). -/
def State.ppuStep (s : State) : State :=
  let r := s.ppu.step s.mem
  { s with ppu := r.1, irq := (s.irq.request srcVblank r.2.1).request srcStat r.2.2 }

/-- The serial slot (rule R871). -/
def State.serialStep (s : State) : State :=
  let r := s.serial.step
  { s with serial := r.1, irq := s.irq.request srcSerial r.2 }

/-- The APU's slot "does nothing observable to the block" (rule R872). -/
def State.apuStep (s : State) : State := s

/-- The joypad's slot (rule R870). -/
def State.joypadStep (s : State) : State := s.setJoypad s.joypad.evaluate

/-- T-cycle `t` of an M-cycle (rule R905). -/
def State.tCycle (t : Nat) (s : State) : State :=
  let u := (((((s.timerStep).dmaStep t).ppuStep).serialStep).apuStep).joypadStep
  { u with clock := u.clock + 1 }

/-- The DMA latches at the end of an M-cycle (rules R230, R231). -/
def Dma.latch (d : Dma) : Dma :=
  let e := if Config.dmaLength ≤ d.idx then { d with active := false } else d
  if e.start then { e with start := false, active := true, src := Word.ofBytes e.reg 0x00#8, idx := 0 }
  else e

/-- The end of an M-cycle. -/
def State.endMCycle (s : State) : State := { s with dma := s.dma.latch }

/-- The four T-cycles of an M-cycle, after the CPU's access of it (rule R905). -/
def State.mCycle (s : State) : State :=
  ((((s.tCycle 0).tCycle 1).tCycle 2).tCycle 3).endMCycle

end Sys2Proof.Machine
end

