-- ==== Sys2Proof/Machine/Ops.lean ====
section
/-! DEFINITION. The named operations over registers and memory: register and pair accessors (rules
R100, R106, R310 to R312), the M-cycle primitives (rule R10), the opcode fetch (rule R320), the
stack (rule R104), and taking an exception and returning from one (rules R570, R606, R711, R714,
R720, R730). -/

namespace Sys2Proof.Machine

/-! Registers. -/

/-- F as it reads: bits 3..0 are zero (rule R106). -/
def Cpu.readF (c : Cpu) : Byte := c.f &&& 0xF0#8

/-- A write of F stores `v & 0xF0` (rule R106). -/
def Cpu.writeF (v : Byte) (c : Cpu) : Cpu := { c with f := v &&& 0xF0#8 }

/-- `reg8[i]` (rule R310). -/
def Cpu.get (r : Reg8) (c : Cpu) : Byte :=
  match r with
  | .b => c.b
  | .c => c.c
  | .d => c.d
  | .e => c.e
  | .h => c.h
  | .l => c.l
  | .a => c.a

/-- `reg8[i] <- v` (rule R310). -/
def Cpu.set (r : Reg8) (v : Byte) (c : Cpu) : Cpu :=
  match r with
  | .b => { c with b := v }
  | .c => { c with c := v }
  | .d => { c with d := v }
  | .e => { c with e := v }
  | .h => { c with h := v }
  | .l => { c with l := v }
  | .a => { c with a := v }

def Cpu.bc (c : Cpu) : Word := Word.ofBytes c.b c.c

def Cpu.de (c : Cpu) : Word := Word.ofBytes c.d c.e

def Cpu.hl (c : Cpu) : Word := Word.ofBytes c.h c.l

def Cpu.af (c : Cpu) : Word := Word.ofBytes c.a c.readF

/-- `HL <- v` (rule R100). -/
def Cpu.setHl (v : Word) (c : Cpu) : Cpu := { c with h := v.hi, l := v.lo }

/-- `reg16[p]` (rule R311). -/
def Cpu.getPair (r : Pair) (c : Cpu) : Word :=
  match r with
  | .bc => c.bc
  | .de => c.de
  | .hl => c.hl
  | .sp => c.sp

/-- `reg16[p] <- v` (rule R311). -/
def Cpu.setPair (r : Pair) (v : Word) (c : Cpu) : Cpu :=
  match r with
  | .bc => { c with b := v.hi, c := v.lo }
  | .de => { c with d := v.hi, e := v.lo }
  | .hl => c.setHl v
  | .sp => { c with sp := v }

/-- `reg16stk[p]` (rule R312). -/
def Cpu.getStack (r : StackPair) (c : Cpu) : Word :=
  match r with
  | .bc => c.bc
  | .de => c.de
  | .hl => c.hl
  | .af => c.af

/-- `reg16stk[p] <- v` (rules R312, R435, R436). -/
def Cpu.setStack (r : StackPair) (v : Word) (c : Cpu) : Cpu :=
  match r with
  | .bc => { c with b := v.hi, c := v.lo }
  | .de => { c with d := v.hi, e := v.lo }
  | .hl => c.setHl v
  | .af => Cpu.writeF v.lo { c with a := v.hi }

/-- An update of the CPU's registers alone. -/
def State.onCpu (f : Cpu → Cpu) (s : State) : State := { s with cpu := f s.cpu }

/-! M-cycle primitives (rule R10). -/

/-- `MemRead(addr, 1)`: the byte read, and the state after its M-cycle. -/
def State.memRead (a : Word) (s : State) : Byte × State :=
  let r := s.busRead a
  (r.1, r.2.mCycle)

/-- `MemWrite(addr, 1, v)`: the state after its M-cycle. -/
def State.memWrite (a : Word) (v : Byte) (s : State) : State := (s.busWrite a v).mCycle

/-- `Internal()`: an M-cycle with no bus access. -/
def State.internal (s : State) : State := s.mCycle

/-- `PC <- trunc_16(PC + 1)`. -/
def Cpu.nextPc (c : Cpu) : Cpu := { c with pc := c.pc + 1#16 }

/-- `Fetch8()` (rule R10). -/
def State.fetch8 (s : State) : Byte × State :=
  let r := s.memRead s.cpu.pc
  (r.1, r.2.onCpu Cpu.nextPc)

/-- What the opcode fetch does to the CPU once the byte is read (rules R108, R320, R322): with HALT_BUG
PC stays, otherwise it advances, and IME_PENDING moves into IME. The latch keeps the address the
byte came from. -/
def Cpu.afterOpcode (c : Cpu) : Cpu :=
  { c with
    opcodeAddr := c.pc
    pc := if c.haltBug then c.pc else c.pc + 1#16
    haltBug := false
    ime := c.ime || c.imePending
    imePending := false }

/-- The opcode fetch, M-cycle 1 of every instruction (rule R320). -/
def State.fetchOpcode (s : State) : Byte × State :=
  let r := s.memRead s.cpu.pc
  (r.1, r.2.onCpu Cpu.afterOpcode)

/-! The stack (rule R104). -/

/-- `SP <- trunc_16(SP − 1); MemWrite(SP, 1, v)`. -/
def State.pushByte (v : Byte) (s : State) : State :=
  let t := s.onCpu (fun c => { c with sp := c.sp - 1#16 })
  t.memWrite t.cpu.sp v

/-- A word pushed, high byte first (rules R104, R210, D50). -/
def State.pushWord (v : Word) (s : State) : State := (s.pushByte v.hi).pushByte v.lo

/-- `v <- MemRead(SP, 1); SP <- trunc_16(SP + 1)`. -/
def State.popByte (s : State) : Byte × State :=
  let r := s.memRead s.cpu.sp
  (r.1, r.2.onCpu (fun c => { c with sp := c.sp + 1#16 }))

/-- A word popped, low byte first (rules R104, R210). -/
def State.popWord (s : State) : Word × State :=
  let lo := s.popByte
  let hi := lo.2.popByte
  (Word.ofBytes hi.1 lo.1, hi.2)

/-! Exceptions. -/

/-- The vector of interrupt `i`, `0x40 + 8·i` (rule R712). -/
def vector (i : Nat) : Word := BitVec.ofNat 16 (0x40 + 8 * i)

/-- The start of a dispatch: `IF[i] <- 0; IME <- 0; HALTED <- 0; STOPPED <- 0` (rule R711). It clears
IME_PENDING too, which rule R711 does not name. DEDUCED (assumption log 18): the bit can be set here only
by an EI run with IME already 1, which "changes nothing observable" (rule R605); kept, it would enable
interrupts in the handler. -/
def State.acknowledge (i : Nat) (s : State) : State :=
  { s with
    irq := s.irq.acknowledge i
    cpu := { s.cpu with ime := false, imePending := false, halted := false, stopped := false } }

/-- TAKING AN INTERRUPT, five M-cycles (rule R711): acknowledge the lowest pending one, push PC, and go
to its vector. The vector is chosen once, before the pushes. -/
def State.dispatch (s : State) : State :=
  let i := s.irq.lowest
  let t := (s.acknowledge i).internal.internal
  (t.pushWord t.cpu.pc).internal.onCpu (fun c => { c with pc := vector i })

/-- The interrupt check (rule R710): not while LOCKED; a dispatch if IME = 1 and one is pending. -/
def State.interruptCheck (s : State) : State :=
  if !s.cpu.locked && s.cpu.ime && decide (s.irq.pending ≠ 0#5) then s.dispatch else s

/-- RETURNING, the pops of RET and RETI (rules R568, R570, R714). -/
def State.returnPc (s : State) : State :=
  let r := s.popWord
  r.2.internal.onCpu (fun c => { c with pc := r.1 })

/-- TAKING IllegalOpcode (rules R606, R730): LOCKED, PC back at the illegal byte, the byte recorded.
The address is the opcode fetch's own, so it is the byte's also after the halt bug. -/
def State.raiseIllegal (op : Byte) (s : State) : State :=
  s.onCpu (fun c => { c with pc := c.opcodeAddr, locked := true, illegalByte := op })

/-- An idle M-cycle of a halted or stopped CPU, with the wake and the check at its end (rule R720). -/
def State.idle (s : State) : State :=
  let t := s.mCycle
  if t.irq.pending = 0#5 then t
  else (t.onCpu (fun c => { c with halted := false, stopped := false })).interruptCheck

end Sys2Proof.Machine
end

