-- ==== Sys2Proof/Machine/Flags.lean ====
section
/-! DEFINITION. Every flag computation of the spec: the carry and borrow helpers (rule R11), the eight
ALU operations (rules R461 to R484), INC and DEC (rules R485, R487), DAA (rule R489), the rotates
and shifts (rules R521 to R541), and the 16-bit additions (rules R437, R501, R504). -/

namespace Sys2Proof.Machine

/-! The flags of F (rule R105). -/

def Cpu.z (c : Cpu) : Bool := c.f.getLsbD 7

def Cpu.n (c : Cpu) : Bool := c.f.getLsbD 6

def Cpu.hf (c : Cpu) : Bool := c.f.getLsbD 5

def Cpu.cy (c : Cpu) : Bool := c.f.getLsbD 4

/-- F with the four flags given and bits 3..0 zero (rules R105, R106). -/
def packFlags (z n h c : Bool) : Byte :=
  BitVec.ofBool z ++ BitVec.ofBool n ++ BitVec.ofBool h ++ BitVec.ofBool c ++ 0#4

/-- Write the four flags. -/
def Cpu.setFlags (z n h cy : Bool) (c : Cpu) : Cpu := { c with f := packFlags z n h cy }

/-! Carries and borrows (rule R11). -/

def carry4 (a b : Byte) (c : Bool) : Bool := decide (0xF < a.toNat % 16 + b.toNat % 16 + c.toNat)

def carry8 (a b : Byte) (c : Bool) : Bool := decide (0xFF < a.toNat + b.toNat + c.toNat)

def carry12 (a b : Word) : Bool := decide (0xFFF < a.toNat % 4096 + b.toNat % 4096)

def carry16 (a b : Word) : Bool := decide (0xFFFF < a.toNat + b.toNat)

def borrow4 (a b : Byte) (c : Bool) : Bool := decide (a.toNat % 16 < b.toNat % 16 + c.toNat)

def borrow8 (a b : Byte) (c : Bool) : Bool := decide (a.toNat < b.toNat + c.toNat)

/-- What an 8-bit operation computes: its result and the four flags it leaves. -/
structure Computed where
  result : Byte
  z : Bool
  n : Bool
  h : Bool
  c : Bool
  deriving DecidableEq, Repr

/-- `trunc_8` of a sum with a carry in, and its flags (rules R461, R464). -/
def addFlags (a v : Byte) (c : Bool) : Computed :=
  let r := BitVec.ofNat 8 (a.toNat + v.toNat + c.toNat)
  ⟨r, decide (r = 0#8), false, carry4 a v c, carry8 a v c⟩

/-- `trunc_8` of a difference with a borrow in, and its flags (rules R467, R470). -/
def subFlags (a v : Byte) (c : Bool) : Computed :=
  let r := a - v - (BitVec.ofBool c).setWidth 8
  ⟨r, decide (r = 0#8), true, borrow4 a v c, borrow8 a v c⟩

/-- A logic result: Z computed, N = 0, Hf as given, Cy = 0 (rules R473, R476, R479). -/
def logicFlags (r : Byte) (h : Bool) : Computed := ⟨r, decide (r = 0#8), false, h, false⟩

/-- `alu[y]` on A, an operand and the carry (rules R314, R461 to R484). CP computes as SUB. -/
def aluCompute (op : Alu) (a v : Byte) (cy : Bool) : Computed :=
  match op with
  | .add => addFlags a v false
  | .adc => addFlags a v cy
  | .sub => subFlags a v false
  | .sbc => subFlags a v cy
  | .and => logicFlags (a &&& v) true
  | .xor => logicFlags (a ^^^ v) false
  | .or => logicFlags (a ||| v) false
  | .cp => subFlags a v false

/-- What an ALU operation leaves in A: CP does not write it (rules R482 to R484). -/
def aluResult (op : Alu) (a r : Byte) : Byte :=
  match op with
  | .add => r
  | .adc => r
  | .sub => r
  | .sbc => r
  | .and => r
  | .xor => r
  | .or => r
  | .cp => a

/-- INC of a byte; Cy is kept (rules R485, R486). -/
def incFlags (v : Byte) (cy : Bool) : Computed :=
  let r := v + 1#8
  ⟨r, decide (r = 0#8), false, decide (v &&& 0x0F#8 = 0x0F#8), cy⟩

/-- DEC of a byte; Cy is kept (rules R487, R488). -/
def decFlags (v : Byte) (cy : Bool) : Computed :=
  let r := v - 1#8
  ⟨r, decide (r = 0#8), true, decide (v &&& 0x0F#8 = 0x00#8), cy⟩

/-- DAA (rule R489). -/
def daaFlags (a : Byte) (n h c : Bool) : Computed :=
  if n then
    let a1 := if c then a - 0x60#8 else a
    let a2 := if h then a1 - 0x06#8 else a1
    ⟨a2, decide (a2 = 0#8), n, false, c⟩
  else
    let high := c || decide (0x99 < a.toNat)
    let a1 := if high then a + 0x60#8 else a
    let a2 := if h || decide (9 < (a1 &&& 0x0F#8).toNat) then a1 + 0x06#8 else a1
    ⟨a2, decide (a2 = 0#8), n, false, high⟩

/-- The result of `rot[y]` and the bit shifted out (rules R315, R526 to R541; RLCA, RRCA, RLA, RRA:
rules R521 to R524). -/
def rotCompute (op : Rot) (v : Byte) (cy : Bool) : Byte × Bool :=
  let old := (BitVec.ofBool cy).setWidth 8
  match op with
  | .rlc => (v <<< 1 ||| (BitVec.ofBool (v.getLsbD 7)).setWidth 8, v.getLsbD 7)
  | .rrc => (v >>> 1 ||| (BitVec.ofBool (v.getLsbD 0)).setWidth 8 <<< 7, v.getLsbD 0)
  | .rl => (v <<< 1 ||| old, v.getLsbD 7)
  | .rr => (v >>> 1 ||| old <<< 7, v.getLsbD 0)
  | .sla => (v <<< 1, v.getLsbD 7)
  | .sra => (v >>> 1 ||| (v &&& 0x80#8), v.getLsbD 0)
  | .swap => ((v &&& 0x0F#8) <<< 4 ||| v >>> 4, false)
  | .srl => (v >>> 1, v.getLsbD 0)

/-- The flags of a CB rotate or shift (rule R526): Z computed, N = Hf = 0, Cy the bit shifted out. -/
def rotFlags (op : Rot) (v : Byte) (cy : Bool) : Computed :=
  let r := rotCompute op v cy
  ⟨r.1, decide (r.1 = 0#8), false, false, r.2⟩

/-- The flags of `ADD SP,e` and `LD HL,SP+e`, from the low-byte addition (rules R437, R504). -/
def Cpu.offsetFlags (b : Byte) (c : Cpu) : Cpu :=
  c.setFlags false false (carry4 c.sp.lo b false) (carry8 c.sp.lo b false)

/-- The flags of `ADD HL,rr` (rule R501): Z is kept. -/
def Cpu.addHlFlags (v : Word) (c : Cpu) : Cpu :=
  c.setFlags c.z false (carry12 c.hl v) (carry16 c.hl v)

/-- `cond(cc)` (rules R313, R560). -/
def Cpu.holds (cc : Cond) (c : Cpu) : Bool :=
  match cc with
  | .nz => !c.z
  | .z => c.z
  | .nc => !c.cy
  | .c => c.cy

end Sys2Proof.Machine
end

