-- ==== Sys2Proof/Machine/Operands.lean ====
section
/-! DEFINITION. The operand forms: a register, the byte at HL, an immediate byte already fetched, and
the memory operands of the loads (rules R310, R401 to R419, R461 to R463). A memory operand costs
one M-cycle per access; a register or a fetched immediate costs none. -/

namespace Sys2Proof.Machine

/-- A source operand of an 8-bit operation. -/
inductive Source where
  | reg (r : Reg8)
  | atHl
  | imm (n : Byte)
  deriving DecidableEq, Repr

/-- Read a source operand. -/
def Source.read (x : Source) (s : State) : Byte × State :=
  match x with
  | .reg r => (s.cpu.get r, s)
  | .atHl => s.memRead s.cpu.hl
  | .imm n => (n, s)

/-- Where a memory operand of a load points (rules R404 to R419). -/
inductive Place where
  | bc | de | hl
  | nn (a : Word)
  /-- `0xFF00 | n` of `LDH (n)`. -/
  | high (n : Byte)
  /-- `0xFF00 | C` of `LDH (C)`. -/
  | highC
  deriving DecidableEq, Repr

/-- The address of a memory operand (rules R302, R404 to R419). -/
def Place.addr (x : Place) (c : Cpu) : Word :=
  match x with
  | .bc => c.bc
  | .de => c.de
  | .hl => c.hl
  | .nn a => a
  | .high n => Word.ofBytes 0xFF#8 n
  | .highC => Word.ofBytes 0xFF#8 c.c

/-- Read the byte at HL, compute on it, and write the result back: two M-cycles, not atomic (rules
R252, R486, R488, R527). `f` gives the byte to write and the flags to leave. -/
def State.modifyAtHl (f : Byte → Cpu → Byte × Cpu) (s : State) : State :=
  let r := s.memRead s.cpu.hl
  let w := f r.1 r.2.cpu
  (r.2.onCpu (fun _ => w.2)).memWrite w.2.hl w.1

/-- Leave a computed byte's flags. -/
def Cpu.leaveFlags (k : Computed) (c : Cpu) : Cpu := c.setFlags k.z k.n k.h k.c

end Sys2Proof.Machine
end

