-- ==== Sys2Proof/Machine/Alu16.lean ====
section
/-! DEFINITION. The 16-bit arithmetic instructions (file 43_alu16.md, rules R501 to R504). -/

namespace Sys2Proof.Machine

/-- `ADD HL,rr` (rule R501). -/
def addHl (p : Pair) (s : State) : State :=
  let v := s.cpu.getPair p
  let r := s.cpu.hl + v
  ((s.onCpu (Cpu.addHlFlags v)).internal).onCpu (Cpu.setHl r)

/-- `INC rr` (rule R502). -/
def incPair (p : Pair) (s : State) : State :=
  s.internal.onCpu (fun c => c.setPair p (c.getPair p + 1#16))

/-- `DEC rr` (rule R503). -/
def decPair (p : Pair) (s : State) : State :=
  s.internal.onCpu (fun c => c.setPair p (c.getPair p - 1#16))

/-- `ADD SP,e` (rule R504). -/
def addSp (e : Byte) (s : State) : State :=
  ((s.onCpu (Cpu.offsetFlags e)).internal.internal).onCpu
    (fun c => { c with sp := c.sp + Word.sext e })

/-- `INC BC` (rule R502). -/
def execIncBc (s : State) : Result := .next (incPair .bc s)

/-- `ADD HL,BC` (rule R501). -/
def execAddHlBc (s : State) : Result := .next (addHl .bc s)

/-- `DEC BC` (rule R503). -/
def execDecBc (s : State) : Result := .next (decPair .bc s)

/-- `INC DE` (rule R502). -/
def execIncDe (s : State) : Result := .next (incPair .de s)

/-- `ADD HL,DE` (rule R501). -/
def execAddHlDe (s : State) : Result := .next (addHl .de s)

/-- `DEC DE` (rule R503). -/
def execDecDe (s : State) : Result := .next (decPair .de s)

/-- `INC HL` (rule R502). -/
def execIncHl (s : State) : Result := .next (incPair .hl s)

/-- `ADD HL,HL` (rule R501). -/
def execAddHlHl (s : State) : Result := .next (addHl .hl s)

/-- `DEC HL` (rule R503). -/
def execDecHl (s : State) : Result := .next (decPair .hl s)

/-- `INC SP` (rule R502). -/
def execIncSp (s : State) : Result := .next (incPair .sp s)

/-- `ADD HL,SP` (rule R501). -/
def execAddHlSp (s : State) : Result := .next (addHl .sp s)

/-- `DEC SP` (rule R503). -/
def execDecSp (s : State) : Result := .next (decPair .sp s)

/-- `ADD SP,e` (rule R504). -/
def execAddSpOff (e : Byte) (s : State) : Result := .next (addSp e s)

end Sys2Proof.Machine
end

