-- ==== Sys2Proof/Machine/Alu8.lean ====
section
/-! DEFINITION. The 8-bit arithmetic and logic instructions (file 42_alu8.md, rules R461 to R492). -/

namespace Sys2Proof.Machine

/-- `alu[y]` on A and a source operand (rules R461 to R484). -/
def aluOp (op : Alu) (x : Source) (s : State) : State :=
  let r := x.read s
  r.2.onCpu (fun c =>
    let k := aluCompute op c.a r.1 c.cy
    { c.leaveFlags k with a := aluResult op c.a k.result })

/-- `INC r` (rule R485). -/
def incReg (r : Reg8) (s : State) : State :=
  s.onCpu (fun c =>
    let k := incFlags (c.get r) c.cy
    (c.leaveFlags k).set r k.result)

/-- `DEC r` (rule R487). -/
def decReg (r : Reg8) (s : State) : State :=
  s.onCpu (fun c =>
    let k := decFlags (c.get r) c.cy
    (c.leaveFlags k).set r k.result)

/-- `INC (HL)` (rule R486). -/
def incAtHl (s : State) : State :=
  s.modifyAtHl (fun v c =>
    let k := incFlags v c.cy
    (k.result, c.leaveFlags k))

/-- `DEC (HL)` (rule R488). -/
def decAtHl (s : State) : State :=
  s.modifyAtHl (fun v c =>
    let k := decFlags v c.cy
    (k.result, c.leaveFlags k))

/-- `DAA` (rule R489). -/
def daa (s : State) : State :=
  s.onCpu (fun c =>
    let k := daaFlags c.a c.n c.hf c.cy
    { c.leaveFlags k with a := k.result })

/-- `A <- ~A; N <- 1; Hf <- 1` (rule R490). -/
def cpl (s : State) : State :=
  s.onCpu (fun c => { c.setFlags c.z true true c.cy with a := ~~~c.a })

/-- `N <- 0; Hf <- 0; Cy <- 1` (rule R491). -/
def scf (s : State) : State := s.onCpu (fun c => c.setFlags c.z false false true)

/-- `N <- 0; Hf <- 0; Cy <- 1 − Cy` (rule R492). -/
def ccf (s : State) : State := s.onCpu (fun c => c.setFlags c.z false false !c.cy)

/-- `INC B` (rule R485). -/
def execIncB (s : State) : Result := .next (incReg .b s)

/-- `DEC B` (rule R487). -/
def execDecB (s : State) : Result := .next (decReg .b s)

/-- `INC C` (rule R485). -/
def execIncC (s : State) : Result := .next (incReg .c s)

/-- `DEC C` (rule R487). -/
def execDecC (s : State) : Result := .next (decReg .c s)

/-- `INC D` (rule R485). -/
def execIncD (s : State) : Result := .next (incReg .d s)

/-- `DEC D` (rule R487). -/
def execDecD (s : State) : Result := .next (decReg .d s)

/-- `INC E` (rule R485). -/
def execIncE (s : State) : Result := .next (incReg .e s)

/-- `DEC E` (rule R487). -/
def execDecE (s : State) : Result := .next (decReg .e s)

/-- `INC H` (rule R485). -/
def execIncH (s : State) : Result := .next (incReg .h s)

/-- `DEC H` (rule R487). -/
def execDecH (s : State) : Result := .next (decReg .h s)

/-- `DAA` (rule R489). -/
def execDaa (s : State) : Result := .next (daa s)

/-- `INC L` (rule R485). -/
def execIncL (s : State) : Result := .next (incReg .l s)

/-- `DEC L` (rule R487). -/
def execDecL (s : State) : Result := .next (decReg .l s)

/-- `CPL` (rule R490). -/
def execCpl (s : State) : Result := .next (cpl s)

/-- `INC (HL)` (rule R486). -/
def execIncAtHl (s : State) : Result := .next (incAtHl s)

/-- `DEC (HL)` (rule R488). -/
def execDecAtHl (s : State) : Result := .next (decAtHl s)

/-- `SCF` (rule R491). -/
def execScf (s : State) : Result := .next (scf s)

/-- `INC A` (rule R485). -/
def execIncA (s : State) : Result := .next (incReg .a s)

/-- `DEC A` (rule R487). -/
def execDecA (s : State) : Result := .next (decReg .a s)

/-- `CCF` (rule R492). -/
def execCcf (s : State) : Result := .next (ccf s)

/-- `ADD A,B` (rule R461). -/
def execAddAB (s : State) : Result := .next (aluOp .add (.reg .b) s)

/-- `ADD A,C` (rule R461). -/
def execAddAC (s : State) : Result := .next (aluOp .add (.reg .c) s)

/-- `ADD A,D` (rule R461). -/
def execAddAD (s : State) : Result := .next (aluOp .add (.reg .d) s)

/-- `ADD A,E` (rule R461). -/
def execAddAE (s : State) : Result := .next (aluOp .add (.reg .e) s)

/-- `ADD A,H` (rule R461). -/
def execAddAH (s : State) : Result := .next (aluOp .add (.reg .h) s)

/-- `ADD A,L` (rule R461). -/
def execAddAL (s : State) : Result := .next (aluOp .add (.reg .l) s)

/-- `ADD A,(HL)` (rule R462). -/
def execAddAAtHl (s : State) : Result := .next (aluOp .add .atHl s)

/-- `ADD A,A` (rule R461). -/
def execAddAA (s : State) : Result := .next (aluOp .add (.reg .a) s)

/-- `ADC A,B` (rule R464). -/
def execAdcAB (s : State) : Result := .next (aluOp .adc (.reg .b) s)

/-- `ADC A,C` (rule R464). -/
def execAdcAC (s : State) : Result := .next (aluOp .adc (.reg .c) s)

/-- `ADC A,D` (rule R464). -/
def execAdcAD (s : State) : Result := .next (aluOp .adc (.reg .d) s)

/-- `ADC A,E` (rule R464). -/
def execAdcAE (s : State) : Result := .next (aluOp .adc (.reg .e) s)

/-- `ADC A,H` (rule R464). -/
def execAdcAH (s : State) : Result := .next (aluOp .adc (.reg .h) s)

/-- `ADC A,L` (rule R464). -/
def execAdcAL (s : State) : Result := .next (aluOp .adc (.reg .l) s)

/-- `ADC A,(HL)` (rule R465). -/
def execAdcAAtHl (s : State) : Result := .next (aluOp .adc .atHl s)

/-- `ADC A,A` (rule R464). -/
def execAdcAA (s : State) : Result := .next (aluOp .adc (.reg .a) s)

/-- `SUB B` (rule R467). -/
def execSubB (s : State) : Result := .next (aluOp .sub (.reg .b) s)

/-- `SUB C` (rule R467). -/
def execSubC (s : State) : Result := .next (aluOp .sub (.reg .c) s)

/-- `SUB D` (rule R467). -/
def execSubD (s : State) : Result := .next (aluOp .sub (.reg .d) s)

/-- `SUB E` (rule R467). -/
def execSubE (s : State) : Result := .next (aluOp .sub (.reg .e) s)

/-- `SUB H` (rule R467). -/
def execSubH (s : State) : Result := .next (aluOp .sub (.reg .h) s)

/-- `SUB L` (rule R467). -/
def execSubL (s : State) : Result := .next (aluOp .sub (.reg .l) s)

/-- `SUB (HL)` (rule R468). -/
def execSubAtHl (s : State) : Result := .next (aluOp .sub .atHl s)

/-- `SUB A` (rule R467). -/
def execSubA (s : State) : Result := .next (aluOp .sub (.reg .a) s)

/-- `SBC A,B` (rule R470). -/
def execSbcAB (s : State) : Result := .next (aluOp .sbc (.reg .b) s)

/-- `SBC A,C` (rule R470). -/
def execSbcAC (s : State) : Result := .next (aluOp .sbc (.reg .c) s)

/-- `SBC A,D` (rule R470). -/
def execSbcAD (s : State) : Result := .next (aluOp .sbc (.reg .d) s)

/-- `SBC A,E` (rule R470). -/
def execSbcAE (s : State) : Result := .next (aluOp .sbc (.reg .e) s)

/-- `SBC A,H` (rule R470). -/
def execSbcAH (s : State) : Result := .next (aluOp .sbc (.reg .h) s)

/-- `SBC A,L` (rule R470). -/
def execSbcAL (s : State) : Result := .next (aluOp .sbc (.reg .l) s)

/-- `SBC A,(HL)` (rule R471). -/
def execSbcAAtHl (s : State) : Result := .next (aluOp .sbc .atHl s)

/-- `SBC A,A` (rule R470). -/
def execSbcAA (s : State) : Result := .next (aluOp .sbc (.reg .a) s)

/-- `AND B` (rule R473). -/
def execAndB (s : State) : Result := .next (aluOp .and (.reg .b) s)

/-- `AND C` (rule R473). -/
def execAndC (s : State) : Result := .next (aluOp .and (.reg .c) s)

/-- `AND D` (rule R473). -/
def execAndD (s : State) : Result := .next (aluOp .and (.reg .d) s)

/-- `AND E` (rule R473). -/
def execAndE (s : State) : Result := .next (aluOp .and (.reg .e) s)

/-- `AND H` (rule R473). -/
def execAndH (s : State) : Result := .next (aluOp .and (.reg .h) s)

/-- `AND L` (rule R473). -/
def execAndL (s : State) : Result := .next (aluOp .and (.reg .l) s)

/-- `AND (HL)` (rule R474). -/
def execAndAtHl (s : State) : Result := .next (aluOp .and .atHl s)

/-- `AND A` (rule R473). -/
def execAndA (s : State) : Result := .next (aluOp .and (.reg .a) s)

/-- `XOR B` (rule R476). -/
def execXorB (s : State) : Result := .next (aluOp .xor (.reg .b) s)

/-- `XOR C` (rule R476). -/
def execXorC (s : State) : Result := .next (aluOp .xor (.reg .c) s)

/-- `XOR D` (rule R476). -/
def execXorD (s : State) : Result := .next (aluOp .xor (.reg .d) s)

/-- `XOR E` (rule R476). -/
def execXorE (s : State) : Result := .next (aluOp .xor (.reg .e) s)

/-- `XOR H` (rule R476). -/
def execXorH (s : State) : Result := .next (aluOp .xor (.reg .h) s)

/-- `XOR L` (rule R476). -/
def execXorL (s : State) : Result := .next (aluOp .xor (.reg .l) s)

/-- `XOR (HL)` (rule R477). -/
def execXorAtHl (s : State) : Result := .next (aluOp .xor .atHl s)

/-- `XOR A` (rule R476). -/
def execXorA (s : State) : Result := .next (aluOp .xor (.reg .a) s)

/-- `OR B` (rule R479). -/
def execOrB (s : State) : Result := .next (aluOp .or (.reg .b) s)

/-- `OR C` (rule R479). -/
def execOrC (s : State) : Result := .next (aluOp .or (.reg .c) s)

/-- `OR D` (rule R479). -/
def execOrD (s : State) : Result := .next (aluOp .or (.reg .d) s)

/-- `OR E` (rule R479). -/
def execOrE (s : State) : Result := .next (aluOp .or (.reg .e) s)

/-- `OR H` (rule R479). -/
def execOrH (s : State) : Result := .next (aluOp .or (.reg .h) s)

/-- `OR L` (rule R479). -/
def execOrL (s : State) : Result := .next (aluOp .or (.reg .l) s)

/-- `OR (HL)` (rule R480). -/
def execOrAtHl (s : State) : Result := .next (aluOp .or .atHl s)

/-- `OR A` (rule R479). -/
def execOrA (s : State) : Result := .next (aluOp .or (.reg .a) s)

/-- `CP B` (rule R482). -/
def execCpB (s : State) : Result := .next (aluOp .cp (.reg .b) s)

/-- `CP C` (rule R482). -/
def execCpC (s : State) : Result := .next (aluOp .cp (.reg .c) s)

/-- `CP D` (rule R482). -/
def execCpD (s : State) : Result := .next (aluOp .cp (.reg .d) s)

/-- `CP E` (rule R482). -/
def execCpE (s : State) : Result := .next (aluOp .cp (.reg .e) s)

/-- `CP H` (rule R482). -/
def execCpH (s : State) : Result := .next (aluOp .cp (.reg .h) s)

/-- `CP L` (rule R482). -/
def execCpL (s : State) : Result := .next (aluOp .cp (.reg .l) s)

/-- `CP (HL)` (rule R483). -/
def execCpAtHl (s : State) : Result := .next (aluOp .cp .atHl s)

/-- `CP A` (rule R482). -/
def execCpA (s : State) : Result := .next (aluOp .cp (.reg .a) s)

/-- `ADD A,n` (rule R463). -/
def execAddAN (n : Byte) (s : State) : Result := .next (aluOp .add (.imm n) s)

/-- `ADC A,n` (rule R466). -/
def execAdcAN (n : Byte) (s : State) : Result := .next (aluOp .adc (.imm n) s)

/-- `SUB n` (rule R469). -/
def execSubN (n : Byte) (s : State) : Result := .next (aluOp .sub (.imm n) s)

/-- `SBC A,n` (rule R472). -/
def execSbcAN (n : Byte) (s : State) : Result := .next (aluOp .sbc (.imm n) s)

/-- `AND n` (rule R475). -/
def execAndN (n : Byte) (s : State) : Result := .next (aluOp .and (.imm n) s)

/-- `XOR n` (rule R478). -/
def execXorN (n : Byte) (s : State) : Result := .next (aluOp .xor (.imm n) s)

/-- `OR n` (rule R481). -/
def execOrN (n : Byte) (s : State) : Result := .next (aluOp .or (.imm n) s)

/-- `CP n` (rule R484). -/
def execCpN (n : Byte) (s : State) : Result := .next (aluOp .cp (.imm n) s)

end Sys2Proof.Machine
end

