-- ==== Sys2Proof/WellFormed.lean ====
section
/-! DEFINITION. When a term of `Instr` is a whole instruction. Every operand's width is its type's, so
the one check is that it is not the bare 0xCB prefix, which "is not an instruction on its own" (rule
R329). The eleven illegal opcodes are encodings of their own (rule R327): they are well formed, and
`Instr.legal` tells them apart. -/

namespace Sys2Proof

/-- The instruction is not the bare 0xCB prefix (rule R329). -/
def Instr.complete (i : Instr) : Bool :=
  match i with
  | .prefixCb => false
  | _ => true

/-- The instruction is none of the eleven illegal opcodes (rule R327). -/
def Instr.legal (i : Instr) : Bool :=
  match i with
  | .illegalD3 => false
  | .illegalDB => false
  | .illegalDD => false
  | .illegalE3 => false
  | .illegalE4 => false
  | .illegalEB => false
  | .illegalEC => false
  | .illegalED => false
  | .illegalF4 => false
  | .illegalFC => false
  | .illegalFD => false
  | _ => true

/-- An instruction is well formed when it is complete. -/
def Instr.wellFormed (i : Instr) : Bool := i.complete

end Sys2Proof
end

