-- ==== Sys2Proof/Decode.lean ====
section
/-! DEFINITION. The decoder, by the fields of the opcode byte (rules R300 to R329), and after it the
encoder, by the numbers of the opcode table (rules R323, R324). The decoder is total: every byte
sequence gives an instruction and the bytes after it, or is rejected by name. -/

namespace Sys2Proof

/-! The fields (rules R301, R310 to R315). -/

/-- The quadrant `x = op[7:6]`, or the group `g` of a CB row's second byte (rule R301). -/
def fieldX (op : Byte) : Fin 4 := (op.extractLsb' 6 2).toFin

/-- `y = op[5:3]` (rule R301). -/
def fieldY (op : Byte) : Fin 8 := (op.extractLsb' 3 3).toFin

/-- `z = op[2:0]` (rule R301). -/
def fieldZ (op : Byte) : Fin 8 := (op.extractLsb' 0 3).toFin

/-- `reg8[i]`, where `none` is `(HL)` (rule R310). -/
def reg8Field (i : Fin 8) : Option Reg8 :=
  match i with
  | 0 => some .b
  | 1 => some .c
  | 2 => some .d
  | 3 => some .e
  | 4 => some .h
  | 5 => some .l
  | 6 => none
  | 7 => some .a

/-- `alu[y]` (rule R314). -/
def aluField (y : Fin 8) : Alu :=
  match y with
  | 0 => .add
  | 1 => .adc
  | 2 => .sub
  | 3 => .sbc
  | 4 => .and
  | 5 => .xor
  | 6 => .or
  | 7 => .cp

/-- `rot[y]` (rule R315). -/
def rotField (y : Fin 8) : Rot :=
  match y with
  | 0 => .rlc
  | 1 => .rrc
  | 2 => .rl
  | 3 => .rr
  | 4 => .sla
  | 5 => .sra
  | 6 => .swap
  | 7 => .srl

/-! The rows a form's fields select. -/

/-- `LD r,r'` (rule R401). -/
def Instr.ldReg (x : Reg8) (y : Reg8) : Instr :=
  match x with
  | .b =>
    match y with
    | .b => .ldBB
    | .c => .ldBC
    | .d => .ldBD
    | .e => .ldBE
    | .h => .ldBH
    | .l => .ldBL
    | .a => .ldBA
  | .c =>
    match y with
    | .b => .ldCB
    | .c => .ldCC
    | .d => .ldCD
    | .e => .ldCE
    | .h => .ldCH
    | .l => .ldCL
    | .a => .ldCA
  | .d =>
    match y with
    | .b => .ldDB
    | .c => .ldDC
    | .d => .ldDD
    | .e => .ldDE
    | .h => .ldDH
    | .l => .ldDL
    | .a => .ldDA
  | .e =>
    match y with
    | .b => .ldEB
    | .c => .ldEC
    | .d => .ldED
    | .e => .ldEE
    | .h => .ldEH
    | .l => .ldEL
    | .a => .ldEA
  | .h =>
    match y with
    | .b => .ldHB
    | .c => .ldHC
    | .d => .ldHD
    | .e => .ldHE
    | .h => .ldHH
    | .l => .ldHL
    | .a => .ldHA
  | .l =>
    match y with
    | .b => .ldLB
    | .c => .ldLC
    | .d => .ldLD
    | .e => .ldLE
    | .h => .ldLH
    | .l => .ldLL
    | .a => .ldLA
  | .a =>
    match y with
    | .b => .ldAB
    | .c => .ldAC
    | .d => .ldAD
    | .e => .ldAE
    | .h => .ldAH
    | .l => .ldAL
    | .a => .ldAA

/-- `LD r,n` (rule R402). -/
def Instr.ldRegImm (x : Reg8) (n : Byte) : Instr :=
  match x with
  | .b => .ldBN n
  | .c => .ldCN n
  | .d => .ldDN n
  | .e => .ldEN n
  | .h => .ldHN n
  | .l => .ldLN n
  | .a => .ldAN n

/-- `LD r,(HL)` (rule R403). -/
def Instr.ldRegAtHl (x : Reg8) : Instr :=
  match x with
  | .b => .ldBAtHl
  | .c => .ldCAtHl
  | .d => .ldDAtHl
  | .e => .ldEAtHl
  | .h => .ldHAtHl
  | .l => .ldLAtHl
  | .a => .ldAAtHl

/-- `LD (HL),r` (rule R404). -/
def Instr.ldAtHlReg (x : Reg8) : Instr :=
  match x with
  | .b => .ldAtHlB
  | .c => .ldAtHlC
  | .d => .ldAtHlD
  | .e => .ldAtHlE
  | .h => .ldAtHlH
  | .l => .ldAtHlL
  | .a => .ldAtHlA

/-- `alu[y] r` (rules R461 to R482). -/
def Instr.aluReg (x : Alu) (y : Reg8) : Instr :=
  match x with
  | .add =>
    match y with
    | .b => .addAB
    | .c => .addAC
    | .d => .addAD
    | .e => .addAE
    | .h => .addAH
    | .l => .addAL
    | .a => .addAA
  | .adc =>
    match y with
    | .b => .adcAB
    | .c => .adcAC
    | .d => .adcAD
    | .e => .adcAE
    | .h => .adcAH
    | .l => .adcAL
    | .a => .adcAA
  | .sub =>
    match y with
    | .b => .subB
    | .c => .subC
    | .d => .subD
    | .e => .subE
    | .h => .subH
    | .l => .subL
    | .a => .subA
  | .sbc =>
    match y with
    | .b => .sbcAB
    | .c => .sbcAC
    | .d => .sbcAD
    | .e => .sbcAE
    | .h => .sbcAH
    | .l => .sbcAL
    | .a => .sbcAA
  | .and =>
    match y with
    | .b => .andB
    | .c => .andC
    | .d => .andD
    | .e => .andE
    | .h => .andH
    | .l => .andL
    | .a => .andA
  | .xor =>
    match y with
    | .b => .xorB
    | .c => .xorC
    | .d => .xorD
    | .e => .xorE
    | .h => .xorH
    | .l => .xorL
    | .a => .xorA
  | .or =>
    match y with
    | .b => .orB
    | .c => .orC
    | .d => .orD
    | .e => .orE
    | .h => .orH
    | .l => .orL
    | .a => .orA
  | .cp =>
    match y with
    | .b => .cpB
    | .c => .cpC
    | .d => .cpD
    | .e => .cpE
    | .h => .cpH
    | .l => .cpL
    | .a => .cpA

/-- `alu[y] (HL)` (rules R462 to R483). -/
def Instr.aluAtHl (x : Alu) : Instr :=
  match x with
  | .add => .addAAtHl
  | .adc => .adcAAtHl
  | .sub => .subAtHl
  | .sbc => .sbcAAtHl
  | .and => .andAtHl
  | .xor => .xorAtHl
  | .or => .orAtHl
  | .cp => .cpAtHl

/-- `alu[y] n` (rules R463 to R484). -/
def Instr.aluImm (x : Alu) (n : Byte) : Instr :=
  match x with
  | .add => .addAN n
  | .adc => .adcAN n
  | .sub => .subN n
  | .sbc => .sbcAN n
  | .and => .andN n
  | .xor => .xorN n
  | .or => .orN n
  | .cp => .cpN n

/-- `INC r` (rule R485). -/
def Instr.incReg (x : Reg8) : Instr :=
  match x with
  | .b => .incB
  | .c => .incC
  | .d => .incD
  | .e => .incE
  | .h => .incH
  | .l => .incL
  | .a => .incA

/-- `DEC r` (rule R487). -/
def Instr.decReg (x : Reg8) : Instr :=
  match x with
  | .b => .decB
  | .c => .decC
  | .d => .decD
  | .e => .decE
  | .h => .decH
  | .l => .decL
  | .a => .decA

/-- `LD rr,nn` (rule R431). -/
def Instr.ldPair (x : Pair) (nn : Word) : Instr :=
  match x with
  | .bc => .ldBcNn nn
  | .de => .ldDeNn nn
  | .hl => .ldHlNn nn
  | .sp => .ldSpNn nn

/-- `ADD HL,rr` (rule R501). -/
def Instr.addHlPair (x : Pair) : Instr :=
  match x with
  | .bc => .addHlBc
  | .de => .addHlDe
  | .hl => .addHlHl
  | .sp => .addHlSp

/-- `INC rr` (rule R502). -/
def Instr.incPair (x : Pair) : Instr :=
  match x with
  | .bc => .incBc
  | .de => .incDe
  | .hl => .incHl
  | .sp => .incSp

/-- `DEC rr` (rule R503). -/
def Instr.decPair (x : Pair) : Instr :=
  match x with
  | .bc => .decBc
  | .de => .decDe
  | .hl => .decHl
  | .sp => .decSp

/-- `PUSH qq` (rule R434). -/
def Instr.push (x : StackPair) : Instr :=
  match x with
  | .bc => .pushBc
  | .de => .pushDe
  | .hl => .pushHl
  | .af => .pushAf

/-- `POP qq` (rules R435, R436). -/
def Instr.pop (x : StackPair) : Instr :=
  match x with
  | .bc => .popBc
  | .de => .popDe
  | .hl => .popHl
  | .af => .popAf

/-- `JR cc,e` (rule R565). -/
def Instr.jrCond (x : Cond) (e : Byte) : Instr :=
  match x with
  | .nz => .jrNzOff e
  | .z => .jrZOff e
  | .nc => .jrNcOff e
  | .c => .jrCOff e

/-- `JP cc,nn` (rule R562). -/
def Instr.jpCond (x : Cond) (nn : Word) : Instr :=
  match x with
  | .nz => .jpNzNn nn
  | .z => .jpZNn nn
  | .nc => .jpNcNn nn
  | .c => .jpCNn nn

/-- `CALL cc,nn` (rule R567). -/
def Instr.callCond (x : Cond) (nn : Word) : Instr :=
  match x with
  | .nz => .callNzNn nn
  | .z => .callZNn nn
  | .nc => .callNcNn nn
  | .c => .callCNn nn

/-- `RET cc` (rule R569). -/
def Instr.retCond (x : Cond) : Instr :=
  match x with
  | .nz => .retNz
  | .z => .retZ
  | .nc => .retNc
  | .c => .retC

/-- `RST t` with `t = 8·y` (rule R571). -/
def Instr.rst (x : Fin 8) : Instr :=
  match x with
  | 0 => .rst00
  | 1 => .rst08
  | 2 => .rst10
  | 3 => .rst18
  | 4 => .rst20
  | 5 => .rst28
  | 6 => .rst30
  | 7 => .rst38

/-- `rot[y] r` (rules R526 to R540). -/
def Instr.rotReg (x : Rot) (y : Reg8) : Instr :=
  match x with
  | .rlc =>
    match y with
    | .b => .rlcB
    | .c => .rlcC
    | .d => .rlcD
    | .e => .rlcE
    | .h => .rlcH
    | .l => .rlcL
    | .a => .rlcA
  | .rrc =>
    match y with
    | .b => .rrcB
    | .c => .rrcC
    | .d => .rrcD
    | .e => .rrcE
    | .h => .rrcH
    | .l => .rrcL
    | .a => .rrcA
  | .rl =>
    match y with
    | .b => .rlB
    | .c => .rlC
    | .d => .rlD
    | .e => .rlE
    | .h => .rlH
    | .l => .rlL
    | .a => .rlA
  | .rr =>
    match y with
    | .b => .rrB
    | .c => .rrC
    | .d => .rrD
    | .e => .rrE
    | .h => .rrH
    | .l => .rrL
    | .a => .rrA
  | .sla =>
    match y with
    | .b => .slaB
    | .c => .slaC
    | .d => .slaD
    | .e => .slaE
    | .h => .slaH
    | .l => .slaL
    | .a => .slaA
  | .sra =>
    match y with
    | .b => .sraB
    | .c => .sraC
    | .d => .sraD
    | .e => .sraE
    | .h => .sraH
    | .l => .sraL
    | .a => .sraA
  | .swap =>
    match y with
    | .b => .swapB
    | .c => .swapC
    | .d => .swapD
    | .e => .swapE
    | .h => .swapH
    | .l => .swapL
    | .a => .swapA
  | .srl =>
    match y with
    | .b => .srlB
    | .c => .srlC
    | .d => .srlD
    | .e => .srlE
    | .h => .srlH
    | .l => .srlL
    | .a => .srlA

/-- `rot[y] (HL)` (rules R527 to R541). -/
def Instr.rotAtHl (x : Rot) : Instr :=
  match x with
  | .rlc => .rlcAtHl
  | .rrc => .rrcAtHl
  | .rl => .rlAtHl
  | .rr => .rrAtHl
  | .sla => .slaAtHl
  | .sra => .sraAtHl
  | .swap => .swapAtHl
  | .srl => .srlAtHl

/-- `BIT b,r` (rule R542). -/
def Instr.bitReg (x : Fin 8) (y : Reg8) : Instr :=
  match x with
  | 0 =>
    match y with
    | .b => .bit0B
    | .c => .bit0C
    | .d => .bit0D
    | .e => .bit0E
    | .h => .bit0H
    | .l => .bit0L
    | .a => .bit0A
  | 1 =>
    match y with
    | .b => .bit1B
    | .c => .bit1C
    | .d => .bit1D
    | .e => .bit1E
    | .h => .bit1H
    | .l => .bit1L
    | .a => .bit1A
  | 2 =>
    match y with
    | .b => .bit2B
    | .c => .bit2C
    | .d => .bit2D
    | .e => .bit2E
    | .h => .bit2H
    | .l => .bit2L
    | .a => .bit2A
  | 3 =>
    match y with
    | .b => .bit3B
    | .c => .bit3C
    | .d => .bit3D
    | .e => .bit3E
    | .h => .bit3H
    | .l => .bit3L
    | .a => .bit3A
  | 4 =>
    match y with
    | .b => .bit4B
    | .c => .bit4C
    | .d => .bit4D
    | .e => .bit4E
    | .h => .bit4H
    | .l => .bit4L
    | .a => .bit4A
  | 5 =>
    match y with
    | .b => .bit5B
    | .c => .bit5C
    | .d => .bit5D
    | .e => .bit5E
    | .h => .bit5H
    | .l => .bit5L
    | .a => .bit5A
  | 6 =>
    match y with
    | .b => .bit6B
    | .c => .bit6C
    | .d => .bit6D
    | .e => .bit6E
    | .h => .bit6H
    | .l => .bit6L
    | .a => .bit6A
  | 7 =>
    match y with
    | .b => .bit7B
    | .c => .bit7C
    | .d => .bit7D
    | .e => .bit7E
    | .h => .bit7H
    | .l => .bit7L
    | .a => .bit7A

/-- `BIT b,(HL)` (rule R543). -/
def Instr.bitAtHl (x : Fin 8) : Instr :=
  match x with
  | 0 => .bit0AtHl
  | 1 => .bit1AtHl
  | 2 => .bit2AtHl
  | 3 => .bit3AtHl
  | 4 => .bit4AtHl
  | 5 => .bit5AtHl
  | 6 => .bit6AtHl
  | 7 => .bit7AtHl

/-- `RES b,r` (rule R544). -/
def Instr.resReg (x : Fin 8) (y : Reg8) : Instr :=
  match x with
  | 0 =>
    match y with
    | .b => .res0B
    | .c => .res0C
    | .d => .res0D
    | .e => .res0E
    | .h => .res0H
    | .l => .res0L
    | .a => .res0A
  | 1 =>
    match y with
    | .b => .res1B
    | .c => .res1C
    | .d => .res1D
    | .e => .res1E
    | .h => .res1H
    | .l => .res1L
    | .a => .res1A
  | 2 =>
    match y with
    | .b => .res2B
    | .c => .res2C
    | .d => .res2D
    | .e => .res2E
    | .h => .res2H
    | .l => .res2L
    | .a => .res2A
  | 3 =>
    match y with
    | .b => .res3B
    | .c => .res3C
    | .d => .res3D
    | .e => .res3E
    | .h => .res3H
    | .l => .res3L
    | .a => .res3A
  | 4 =>
    match y with
    | .b => .res4B
    | .c => .res4C
    | .d => .res4D
    | .e => .res4E
    | .h => .res4H
    | .l => .res4L
    | .a => .res4A
  | 5 =>
    match y with
    | .b => .res5B
    | .c => .res5C
    | .d => .res5D
    | .e => .res5E
    | .h => .res5H
    | .l => .res5L
    | .a => .res5A
  | 6 =>
    match y with
    | .b => .res6B
    | .c => .res6C
    | .d => .res6D
    | .e => .res6E
    | .h => .res6H
    | .l => .res6L
    | .a => .res6A
  | 7 =>
    match y with
    | .b => .res7B
    | .c => .res7C
    | .d => .res7D
    | .e => .res7E
    | .h => .res7H
    | .l => .res7L
    | .a => .res7A

/-- `RES b,(HL)` (rule R545). -/
def Instr.resAtHl (x : Fin 8) : Instr :=
  match x with
  | 0 => .res0AtHl
  | 1 => .res1AtHl
  | 2 => .res2AtHl
  | 3 => .res3AtHl
  | 4 => .res4AtHl
  | 5 => .res5AtHl
  | 6 => .res6AtHl
  | 7 => .res7AtHl

/-- `SET b,r` (rule R546). -/
def Instr.setReg (x : Fin 8) (y : Reg8) : Instr :=
  match x with
  | 0 =>
    match y with
    | .b => .set0B
    | .c => .set0C
    | .d => .set0D
    | .e => .set0E
    | .h => .set0H
    | .l => .set0L
    | .a => .set0A
  | 1 =>
    match y with
    | .b => .set1B
    | .c => .set1C
    | .d => .set1D
    | .e => .set1E
    | .h => .set1H
    | .l => .set1L
    | .a => .set1A
  | 2 =>
    match y with
    | .b => .set2B
    | .c => .set2C
    | .d => .set2D
    | .e => .set2E
    | .h => .set2H
    | .l => .set2L
    | .a => .set2A
  | 3 =>
    match y with
    | .b => .set3B
    | .c => .set3C
    | .d => .set3D
    | .e => .set3E
    | .h => .set3H
    | .l => .set3L
    | .a => .set3A
  | 4 =>
    match y with
    | .b => .set4B
    | .c => .set4C
    | .d => .set4D
    | .e => .set4E
    | .h => .set4H
    | .l => .set4L
    | .a => .set4A
  | 5 =>
    match y with
    | .b => .set5B
    | .c => .set5C
    | .d => .set5D
    | .e => .set5E
    | .h => .set5H
    | .l => .set5L
    | .a => .set5A
  | 6 =>
    match y with
    | .b => .set6B
    | .c => .set6C
    | .d => .set6D
    | .e => .set6E
    | .h => .set6H
    | .l => .set6L
    | .a => .set6A
  | 7 =>
    match y with
    | .b => .set7B
    | .c => .set7C
    | .d => .set7D
    | .e => .set7E
    | .h => .set7H
    | .l => .set7L
    | .a => .set7A

/-- `SET b,(HL)` (rule R547). -/
def Instr.setAtHl (x : Fin 8) : Instr :=
  match x with
  | 0 => .set0AtHl
  | 1 => .set1AtHl
  | 2 => .set2AtHl
  | 3 => .set3AtHl
  | 4 => .set4AtHl
  | 5 => .set5AtHl
  | 6 => .set6AtHl
  | 7 => .set7AtHl

/-! The four quadrants of a primary opcode (rule R323). `n` is its first operand byte and `nn` its two
operand bytes, the low one first (rules R210, R302). -/

/-- x = 0: "the mixed block". -/
def decodeX0 (y z : Fin 8) (n : Byte) (nn : Word) : Instr :=
  match z with
  | 0 =>
    match y with
    | 0 => .nop
    | 1 => .ldAtNnSp nn
    | 2 => .stop
    | 3 => .jrOff n
    | 4 => .jrCond .nz n
    | 5 => .jrCond .z n
    | 6 => .jrCond .nc n
    | 7 => .jrCond .c n
  | 1 =>
    match y with
    | 0 => .ldPair .bc nn
    | 1 => .addHlPair .bc
    | 2 => .ldPair .de nn
    | 3 => .addHlPair .de
    | 4 => .ldPair .hl nn
    | 5 => .addHlPair .hl
    | 6 => .ldPair .sp nn
    | 7 => .addHlPair .sp
  | 2 =>
    match y with
    | 0 => .ldAtBcA
    | 1 => .ldAAtBc
    | 2 => .ldAtDeA
    | 3 => .ldAAtDe
    | 4 => .ldAtHliA
    | 5 => .ldAAtHli
    | 6 => .ldAtHldA
    | 7 => .ldAAtHld
  | 3 =>
    match y with
    | 0 => .incPair .bc
    | 1 => .decPair .bc
    | 2 => .incPair .de
    | 3 => .decPair .de
    | 4 => .incPair .hl
    | 5 => .decPair .hl
    | 6 => .incPair .sp
    | 7 => .decPair .sp
  | 4 =>
    match reg8Field y with
    | some r => .incReg r
    | none => .incAtHl
  | 5 =>
    match reg8Field y with
    | some r => .decReg r
    | none => .decAtHl
  | 6 =>
    match reg8Field y with
    | some r => .ldRegImm r n
    | none => .ldAtHlN n
  | 7 =>
    match y with
    | 0 => .rlca
    | 1 => .rrca
    | 2 => .rla
    | 3 => .rra
    | 4 => .daa
    | 5 => .cpl
    | 6 => .scf
    | 7 => .ccf

/-- x = 1: `LD reg8[y],reg8[z]` except 0x76 = HALT. -/
def decodeX1 (y z : Fin 8) : Instr :=
  match reg8Field y, reg8Field z with
  | some dst, some r => .ldReg dst r
  | some dst, none => .ldRegAtHl dst
  | none, some r => .ldAtHlReg r
  | none, none => .halt

/-- x = 2: `alu[y] A,reg8[z]`. -/
def decodeX2 (y z : Fin 8) : Instr :=
  match reg8Field z with
  | some r => .aluReg (aluField y) r
  | none => .aluAtHl (aluField y)

/-- x = 3: control transfer, the stack, LDH, the immediate ALU forms, DI, EI, the prefix and the
illegal opcodes. -/
def decodeX3 (y z : Fin 8) (n : Byte) (nn : Word) : Instr :=
  match z with
  | 0 =>
    match y with
    | 0 => .retCond .nz
    | 1 => .retCond .z
    | 2 => .retCond .nc
    | 3 => .retCond .c
    | 4 => .ldhAtNA n
    | 5 => .addSpOff n
    | 6 => .ldhAAtN n
    | 7 => .ldHlSpOff n
  | 1 =>
    match y with
    | 0 => .pop .bc
    | 1 => .ret
    | 2 => .pop .de
    | 3 => .reti
    | 4 => .pop .hl
    | 5 => .jpHl
    | 6 => .pop .af
    | 7 => .ldSpHl
  | 2 =>
    match y with
    | 0 => .jpCond .nz nn
    | 1 => .jpCond .z nn
    | 2 => .jpCond .nc nn
    | 3 => .jpCond .c nn
    | 4 => .ldhAtCA
    | 5 => .ldAtNnA nn
    | 6 => .ldhAAtC
    | 7 => .ldAAtNn nn
  | 3 =>
    match y with
    | 0 => .jpNn nn
    | 1 => .prefixCb
    | 2 => .illegalD3
    | 3 => .illegalDB
    | 4 => .illegalE3
    | 5 => .illegalEB
    | 6 => .di
    | 7 => .ei
  | 4 =>
    match y with
    | 0 => .callCond .nz nn
    | 1 => .callCond .z nn
    | 2 => .callCond .nc nn
    | 3 => .callCond .c nn
    | 4 => .illegalE4
    | 5 => .illegalEC
    | 6 => .illegalF4
    | 7 => .illegalFC
  | 5 =>
    match y with
    | 0 => .push .bc
    | 1 => .callNn nn
    | 2 => .push .de
    | 3 => .illegalDD
    | 4 => .push .hl
    | 5 => .illegalED
    | 6 => .push .af
    | 7 => .illegalFD
  | 6 => .aluImm (aluField y) n
  | 7 => .rst y

/-- The CB row a second byte selects (rules R324, R525). -/
def decodeCb (op2 : Byte) : Instr :=
  let y := fieldY op2
  match fieldX op2, reg8Field (fieldZ op2) with
  | 0, some r => .rotReg (rotField y) r
  | 0, none => .rotAtHl (rotField y)
  | 1, some r => .bitReg y r
  | 1, none => .bitAtHl y
  | 2, some r => .resReg y r
  | 2, none => .resAtHl y
  | 3, some r => .setReg y r
  | 3, none => .setAtHl y

/-- The primary row of an opcode byte, with its operands (rule R323). -/
def decodePrimary (op : Byte) (n : Byte) (nn : Word) : Instr :=
  match fieldX op with
  | 0 => decodeX0 (fieldY op) (fieldZ op) n nn
  | 1 => decodeX1 (fieldY op) (fieldZ op)
  | 2 => decodeX2 (fieldY op) (fieldZ op)
  | 3 => decodeX3 (fieldY op) (fieldZ op) n nn

/-- The instruction of an opcode byte and the bytes fetched after it (rules R321, R525): "Decode is a
total function of the opcode byte". -/
def decodeOp (op b1 b2 : Byte) : Instr :=
  if op = 0xCB#8 then decodeCb b1 else decodePrimary op b1 (Word.ofBytes b2 b1)

/-- The bytes an instruction fetches after its opcode byte, from its format (rule R300): none for B1,
one for B2 and CB2, two for B3; none for STOP, whose second byte is not fetched (rule R603). -/
def operandBytes (op : Byte) : Nat :=
  match fieldX op with
  | 0 =>
    match fieldZ op with
    | 0 =>
      match fieldY op with
      | 0 => 0
      | 1 => 2
      | 2 => 0
      | 3 => 1
      | 4 => 1
      | 5 => 1
      | 6 => 1
      | 7 => 1
    | 1 => if (fieldY op).val % 2 = 0 then 2 else 0
    | 2 => 0
    | 3 => 0
    | 4 => 0
    | 5 => 0
    | 6 => 1
    | 7 => 0
  | 1 => 0
  | 2 => 0
  | 3 =>
    match fieldZ op with
    | 0 => if (fieldY op).val < 4 then 0 else 1
    | 1 => 0
    | 2 =>
      match fieldY op with
      | 0 => 2
      | 1 => 2
      | 2 => 2
      | 3 => 2
      | 4 => 0
      | 5 => 2
      | 6 => 0
      | 7 => 2
    | 3 =>
      match fieldY op with
      | 0 => 2
      | 1 => 1
      | 2 => 0
      | 3 => 0
      | 4 => 0
      | 5 => 0
      | 6 => 0
      | 7 => 0
    | 4 => if (fieldY op).val < 4 then 2 else 0
    | 5 => if (fieldY op).val = 1 then 2 else 0
    | 6 => 1
    | 7 => 0

/-- Why a byte sequence is no instruction. -/
inductive DecodeReject where
  /-- There is no byte. -/
  | noOpcode
  /-- The sequence ends before the operand bytes of the opcode do. -/
  | missingOperand (op : Byte)
  deriving DecidableEq, Repr

/-- What the decoder answers. -/
inductive Decoded where
  | ok (i : Instr) (rest : List Byte)
  | reject (r : DecodeReject)
  deriving DecidableEq, Repr

/-- The decoder (rules R300, R321, R329): the first instruction of a byte sequence and the bytes after
it. STOP's second byte is read past, whatever its value (rule R328). The byte 0xCB with nothing
after it is the prefix alone, which is no complete instruction. -/
def decode (bytes : List Byte) : Decoded :=
  match bytes with
  | [] => .reject .noOpcode
  | op :: rest =>
    if op = 0x10#8 then
      match rest with
      | [] => .reject (.missingOperand op)
      | _ :: r => .ok .stop r
    else
      match operandBytes op, rest with
      | 0, r => .ok (decodeOp op 0x00#8 0x00#8) r
      | 1, b1 :: r => .ok (decodeOp op b1 0x00#8) r
      | 2, b1 :: b2 :: r => .ok (decodeOp op b1 b2) r
      | _, _ => if op = 0xCB#8 then .ok .prefixCb rest else .reject (.missingOperand op)

/-! The encoder, from the table's `match` column. -/

/-- The bytes of an instruction. STOP is written `10 00` (rule R330). -/
def encode (i : Instr) : List Byte :=
  match i with
  | .nop => [0x00#8]
  | .ldBcNn nn => [0x01#8, nn.lo, nn.hi]
  | .ldAtBcA => [0x02#8]
  | .incBc => [0x03#8]
  | .incB => [0x04#8]
  | .decB => [0x05#8]
  | .ldBN n => [0x06#8, n]
  | .rlca => [0x07#8]
  | .ldAtNnSp nn => [0x08#8, nn.lo, nn.hi]
  | .addHlBc => [0x09#8]
  | .ldAAtBc => [0x0A#8]
  | .decBc => [0x0B#8]
  | .incC => [0x0C#8]
  | .decC => [0x0D#8]
  | .ldCN n => [0x0E#8, n]
  | .rrca => [0x0F#8]
  | .stop => [0x10#8, 0x00#8]
  | .ldDeNn nn => [0x11#8, nn.lo, nn.hi]
  | .ldAtDeA => [0x12#8]
  | .incDe => [0x13#8]
  | .incD => [0x14#8]
  | .decD => [0x15#8]
  | .ldDN n => [0x16#8, n]
  | .rla => [0x17#8]
  | .jrOff e => [0x18#8, e]
  | .addHlDe => [0x19#8]
  | .ldAAtDe => [0x1A#8]
  | .decDe => [0x1B#8]
  | .incE => [0x1C#8]
  | .decE => [0x1D#8]
  | .ldEN n => [0x1E#8, n]
  | .rra => [0x1F#8]
  | .jrNzOff e => [0x20#8, e]
  | .ldHlNn nn => [0x21#8, nn.lo, nn.hi]
  | .ldAtHliA => [0x22#8]
  | .incHl => [0x23#8]
  | .incH => [0x24#8]
  | .decH => [0x25#8]
  | .ldHN n => [0x26#8, n]
  | .daa => [0x27#8]
  | .jrZOff e => [0x28#8, e]
  | .addHlHl => [0x29#8]
  | .ldAAtHli => [0x2A#8]
  | .decHl => [0x2B#8]
  | .incL => [0x2C#8]
  | .decL => [0x2D#8]
  | .ldLN n => [0x2E#8, n]
  | .cpl => [0x2F#8]
  | .jrNcOff e => [0x30#8, e]
  | .ldSpNn nn => [0x31#8, nn.lo, nn.hi]
  | .ldAtHldA => [0x32#8]
  | .incSp => [0x33#8]
  | .incAtHl => [0x34#8]
  | .decAtHl => [0x35#8]
  | .ldAtHlN n => [0x36#8, n]
  | .scf => [0x37#8]
  | .jrCOff e => [0x38#8, e]
  | .addHlSp => [0x39#8]
  | .ldAAtHld => [0x3A#8]
  | .decSp => [0x3B#8]
  | .incA => [0x3C#8]
  | .decA => [0x3D#8]
  | .ldAN n => [0x3E#8, n]
  | .ccf => [0x3F#8]
  | .ldBB => [0x40#8]
  | .ldBC => [0x41#8]
  | .ldBD => [0x42#8]
  | .ldBE => [0x43#8]
  | .ldBH => [0x44#8]
  | .ldBL => [0x45#8]
  | .ldBAtHl => [0x46#8]
  | .ldBA => [0x47#8]
  | .ldCB => [0x48#8]
  | .ldCC => [0x49#8]
  | .ldCD => [0x4A#8]
  | .ldCE => [0x4B#8]
  | .ldCH => [0x4C#8]
  | .ldCL => [0x4D#8]
  | .ldCAtHl => [0x4E#8]
  | .ldCA => [0x4F#8]
  | .ldDB => [0x50#8]
  | .ldDC => [0x51#8]
  | .ldDD => [0x52#8]
  | .ldDE => [0x53#8]
  | .ldDH => [0x54#8]
  | .ldDL => [0x55#8]
  | .ldDAtHl => [0x56#8]
  | .ldDA => [0x57#8]
  | .ldEB => [0x58#8]
  | .ldEC => [0x59#8]
  | .ldED => [0x5A#8]
  | .ldEE => [0x5B#8]
  | .ldEH => [0x5C#8]
  | .ldEL => [0x5D#8]
  | .ldEAtHl => [0x5E#8]
  | .ldEA => [0x5F#8]
  | .ldHB => [0x60#8]
  | .ldHC => [0x61#8]
  | .ldHD => [0x62#8]
  | .ldHE => [0x63#8]
  | .ldHH => [0x64#8]
  | .ldHL => [0x65#8]
  | .ldHAtHl => [0x66#8]
  | .ldHA => [0x67#8]
  | .ldLB => [0x68#8]
  | .ldLC => [0x69#8]
  | .ldLD => [0x6A#8]
  | .ldLE => [0x6B#8]
  | .ldLH => [0x6C#8]
  | .ldLL => [0x6D#8]
  | .ldLAtHl => [0x6E#8]
  | .ldLA => [0x6F#8]
  | .ldAtHlB => [0x70#8]
  | .ldAtHlC => [0x71#8]
  | .ldAtHlD => [0x72#8]
  | .ldAtHlE => [0x73#8]
  | .ldAtHlH => [0x74#8]
  | .ldAtHlL => [0x75#8]
  | .halt => [0x76#8]
  | .ldAtHlA => [0x77#8]
  | .ldAB => [0x78#8]
  | .ldAC => [0x79#8]
  | .ldAD => [0x7A#8]
  | .ldAE => [0x7B#8]
  | .ldAH => [0x7C#8]
  | .ldAL => [0x7D#8]
  | .ldAAtHl => [0x7E#8]
  | .ldAA => [0x7F#8]
  | .addAB => [0x80#8]
  | .addAC => [0x81#8]
  | .addAD => [0x82#8]
  | .addAE => [0x83#8]
  | .addAH => [0x84#8]
  | .addAL => [0x85#8]
  | .addAAtHl => [0x86#8]
  | .addAA => [0x87#8]
  | .adcAB => [0x88#8]
  | .adcAC => [0x89#8]
  | .adcAD => [0x8A#8]
  | .adcAE => [0x8B#8]
  | .adcAH => [0x8C#8]
  | .adcAL => [0x8D#8]
  | .adcAAtHl => [0x8E#8]
  | .adcAA => [0x8F#8]
  | .subB => [0x90#8]
  | .subC => [0x91#8]
  | .subD => [0x92#8]
  | .subE => [0x93#8]
  | .subH => [0x94#8]
  | .subL => [0x95#8]
  | .subAtHl => [0x96#8]
  | .subA => [0x97#8]
  | .sbcAB => [0x98#8]
  | .sbcAC => [0x99#8]
  | .sbcAD => [0x9A#8]
  | .sbcAE => [0x9B#8]
  | .sbcAH => [0x9C#8]
  | .sbcAL => [0x9D#8]
  | .sbcAAtHl => [0x9E#8]
  | .sbcAA => [0x9F#8]
  | .andB => [0xA0#8]
  | .andC => [0xA1#8]
  | .andD => [0xA2#8]
  | .andE => [0xA3#8]
  | .andH => [0xA4#8]
  | .andL => [0xA5#8]
  | .andAtHl => [0xA6#8]
  | .andA => [0xA7#8]
  | .xorB => [0xA8#8]
  | .xorC => [0xA9#8]
  | .xorD => [0xAA#8]
  | .xorE => [0xAB#8]
  | .xorH => [0xAC#8]
  | .xorL => [0xAD#8]
  | .xorAtHl => [0xAE#8]
  | .xorA => [0xAF#8]
  | .orB => [0xB0#8]
  | .orC => [0xB1#8]
  | .orD => [0xB2#8]
  | .orE => [0xB3#8]
  | .orH => [0xB4#8]
  | .orL => [0xB5#8]
  | .orAtHl => [0xB6#8]
  | .orA => [0xB7#8]
  | .cpB => [0xB8#8]
  | .cpC => [0xB9#8]
  | .cpD => [0xBA#8]
  | .cpE => [0xBB#8]
  | .cpH => [0xBC#8]
  | .cpL => [0xBD#8]
  | .cpAtHl => [0xBE#8]
  | .cpA => [0xBF#8]
  | .retNz => [0xC0#8]
  | .popBc => [0xC1#8]
  | .jpNzNn nn => [0xC2#8, nn.lo, nn.hi]
  | .jpNn nn => [0xC3#8, nn.lo, nn.hi]
  | .callNzNn nn => [0xC4#8, nn.lo, nn.hi]
  | .pushBc => [0xC5#8]
  | .addAN n => [0xC6#8, n]
  | .rst00 => [0xC7#8]
  | .retZ => [0xC8#8]
  | .ret => [0xC9#8]
  | .jpZNn nn => [0xCA#8, nn.lo, nn.hi]
  | .prefixCb => [0xCB#8]
  | .callZNn nn => [0xCC#8, nn.lo, nn.hi]
  | .callNn nn => [0xCD#8, nn.lo, nn.hi]
  | .adcAN n => [0xCE#8, n]
  | .rst08 => [0xCF#8]
  | .retNc => [0xD0#8]
  | .popDe => [0xD1#8]
  | .jpNcNn nn => [0xD2#8, nn.lo, nn.hi]
  | .illegalD3 => [0xD3#8]
  | .callNcNn nn => [0xD4#8, nn.lo, nn.hi]
  | .pushDe => [0xD5#8]
  | .subN n => [0xD6#8, n]
  | .rst10 => [0xD7#8]
  | .retC => [0xD8#8]
  | .reti => [0xD9#8]
  | .jpCNn nn => [0xDA#8, nn.lo, nn.hi]
  | .illegalDB => [0xDB#8]
  | .callCNn nn => [0xDC#8, nn.lo, nn.hi]
  | .illegalDD => [0xDD#8]
  | .sbcAN n => [0xDE#8, n]
  | .rst18 => [0xDF#8]
  | .ldhAtNA n => [0xE0#8, n]
  | .popHl => [0xE1#8]
  | .ldhAtCA => [0xE2#8]
  | .illegalE3 => [0xE3#8]
  | .illegalE4 => [0xE4#8]
  | .pushHl => [0xE5#8]
  | .andN n => [0xE6#8, n]
  | .rst20 => [0xE7#8]
  | .addSpOff e => [0xE8#8, e]
  | .jpHl => [0xE9#8]
  | .ldAtNnA nn => [0xEA#8, nn.lo, nn.hi]
  | .illegalEB => [0xEB#8]
  | .illegalEC => [0xEC#8]
  | .illegalED => [0xED#8]
  | .xorN n => [0xEE#8, n]
  | .rst28 => [0xEF#8]
  | .ldhAAtN n => [0xF0#8, n]
  | .popAf => [0xF1#8]
  | .ldhAAtC => [0xF2#8]
  | .di => [0xF3#8]
  | .illegalF4 => [0xF4#8]
  | .pushAf => [0xF5#8]
  | .orN n => [0xF6#8, n]
  | .rst30 => [0xF7#8]
  | .ldHlSpOff e => [0xF8#8, e]
  | .ldSpHl => [0xF9#8]
  | .ldAAtNn nn => [0xFA#8, nn.lo, nn.hi]
  | .ei => [0xFB#8]
  | .illegalFC => [0xFC#8]
  | .illegalFD => [0xFD#8]
  | .cpN n => [0xFE#8, n]
  | .rst38 => [0xFF#8]
  | .rlcB => [0xCB#8, 0x00#8]
  | .rlcC => [0xCB#8, 0x01#8]
  | .rlcD => [0xCB#8, 0x02#8]
  | .rlcE => [0xCB#8, 0x03#8]
  | .rlcH => [0xCB#8, 0x04#8]
  | .rlcL => [0xCB#8, 0x05#8]
  | .rlcAtHl => [0xCB#8, 0x06#8]
  | .rlcA => [0xCB#8, 0x07#8]
  | .rrcB => [0xCB#8, 0x08#8]
  | .rrcC => [0xCB#8, 0x09#8]
  | .rrcD => [0xCB#8, 0x0A#8]
  | .rrcE => [0xCB#8, 0x0B#8]
  | .rrcH => [0xCB#8, 0x0C#8]
  | .rrcL => [0xCB#8, 0x0D#8]
  | .rrcAtHl => [0xCB#8, 0x0E#8]
  | .rrcA => [0xCB#8, 0x0F#8]
  | .rlB => [0xCB#8, 0x10#8]
  | .rlC => [0xCB#8, 0x11#8]
  | .rlD => [0xCB#8, 0x12#8]
  | .rlE => [0xCB#8, 0x13#8]
  | .rlH => [0xCB#8, 0x14#8]
  | .rlL => [0xCB#8, 0x15#8]
  | .rlAtHl => [0xCB#8, 0x16#8]
  | .rlA => [0xCB#8, 0x17#8]
  | .rrB => [0xCB#8, 0x18#8]
  | .rrC => [0xCB#8, 0x19#8]
  | .rrD => [0xCB#8, 0x1A#8]
  | .rrE => [0xCB#8, 0x1B#8]
  | .rrH => [0xCB#8, 0x1C#8]
  | .rrL => [0xCB#8, 0x1D#8]
  | .rrAtHl => [0xCB#8, 0x1E#8]
  | .rrA => [0xCB#8, 0x1F#8]
  | .slaB => [0xCB#8, 0x20#8]
  | .slaC => [0xCB#8, 0x21#8]
  | .slaD => [0xCB#8, 0x22#8]
  | .slaE => [0xCB#8, 0x23#8]
  | .slaH => [0xCB#8, 0x24#8]
  | .slaL => [0xCB#8, 0x25#8]
  | .slaAtHl => [0xCB#8, 0x26#8]
  | .slaA => [0xCB#8, 0x27#8]
  | .sraB => [0xCB#8, 0x28#8]
  | .sraC => [0xCB#8, 0x29#8]
  | .sraD => [0xCB#8, 0x2A#8]
  | .sraE => [0xCB#8, 0x2B#8]
  | .sraH => [0xCB#8, 0x2C#8]
  | .sraL => [0xCB#8, 0x2D#8]
  | .sraAtHl => [0xCB#8, 0x2E#8]
  | .sraA => [0xCB#8, 0x2F#8]
  | .swapB => [0xCB#8, 0x30#8]
  | .swapC => [0xCB#8, 0x31#8]
  | .swapD => [0xCB#8, 0x32#8]
  | .swapE => [0xCB#8, 0x33#8]
  | .swapH => [0xCB#8, 0x34#8]
  | .swapL => [0xCB#8, 0x35#8]
  | .swapAtHl => [0xCB#8, 0x36#8]
  | .swapA => [0xCB#8, 0x37#8]
  | .srlB => [0xCB#8, 0x38#8]
  | .srlC => [0xCB#8, 0x39#8]
  | .srlD => [0xCB#8, 0x3A#8]
  | .srlE => [0xCB#8, 0x3B#8]
  | .srlH => [0xCB#8, 0x3C#8]
  | .srlL => [0xCB#8, 0x3D#8]
  | .srlAtHl => [0xCB#8, 0x3E#8]
  | .srlA => [0xCB#8, 0x3F#8]
  | .bit0B => [0xCB#8, 0x40#8]
  | .bit0C => [0xCB#8, 0x41#8]
  | .bit0D => [0xCB#8, 0x42#8]
  | .bit0E => [0xCB#8, 0x43#8]
  | .bit0H => [0xCB#8, 0x44#8]
  | .bit0L => [0xCB#8, 0x45#8]
  | .bit0AtHl => [0xCB#8, 0x46#8]
  | .bit0A => [0xCB#8, 0x47#8]
  | .bit1B => [0xCB#8, 0x48#8]
  | .bit1C => [0xCB#8, 0x49#8]
  | .bit1D => [0xCB#8, 0x4A#8]
  | .bit1E => [0xCB#8, 0x4B#8]
  | .bit1H => [0xCB#8, 0x4C#8]
  | .bit1L => [0xCB#8, 0x4D#8]
  | .bit1AtHl => [0xCB#8, 0x4E#8]
  | .bit1A => [0xCB#8, 0x4F#8]
  | .bit2B => [0xCB#8, 0x50#8]
  | .bit2C => [0xCB#8, 0x51#8]
  | .bit2D => [0xCB#8, 0x52#8]
  | .bit2E => [0xCB#8, 0x53#8]
  | .bit2H => [0xCB#8, 0x54#8]
  | .bit2L => [0xCB#8, 0x55#8]
  | .bit2AtHl => [0xCB#8, 0x56#8]
  | .bit2A => [0xCB#8, 0x57#8]
  | .bit3B => [0xCB#8, 0x58#8]
  | .bit3C => [0xCB#8, 0x59#8]
  | .bit3D => [0xCB#8, 0x5A#8]
  | .bit3E => [0xCB#8, 0x5B#8]
  | .bit3H => [0xCB#8, 0x5C#8]
  | .bit3L => [0xCB#8, 0x5D#8]
  | .bit3AtHl => [0xCB#8, 0x5E#8]
  | .bit3A => [0xCB#8, 0x5F#8]
  | .bit4B => [0xCB#8, 0x60#8]
  | .bit4C => [0xCB#8, 0x61#8]
  | .bit4D => [0xCB#8, 0x62#8]
  | .bit4E => [0xCB#8, 0x63#8]
  | .bit4H => [0xCB#8, 0x64#8]
  | .bit4L => [0xCB#8, 0x65#8]
  | .bit4AtHl => [0xCB#8, 0x66#8]
  | .bit4A => [0xCB#8, 0x67#8]
  | .bit5B => [0xCB#8, 0x68#8]
  | .bit5C => [0xCB#8, 0x69#8]
  | .bit5D => [0xCB#8, 0x6A#8]
  | .bit5E => [0xCB#8, 0x6B#8]
  | .bit5H => [0xCB#8, 0x6C#8]
  | .bit5L => [0xCB#8, 0x6D#8]
  | .bit5AtHl => [0xCB#8, 0x6E#8]
  | .bit5A => [0xCB#8, 0x6F#8]
  | .bit6B => [0xCB#8, 0x70#8]
  | .bit6C => [0xCB#8, 0x71#8]
  | .bit6D => [0xCB#8, 0x72#8]
  | .bit6E => [0xCB#8, 0x73#8]
  | .bit6H => [0xCB#8, 0x74#8]
  | .bit6L => [0xCB#8, 0x75#8]
  | .bit6AtHl => [0xCB#8, 0x76#8]
  | .bit6A => [0xCB#8, 0x77#8]
  | .bit7B => [0xCB#8, 0x78#8]
  | .bit7C => [0xCB#8, 0x79#8]
  | .bit7D => [0xCB#8, 0x7A#8]
  | .bit7E => [0xCB#8, 0x7B#8]
  | .bit7H => [0xCB#8, 0x7C#8]
  | .bit7L => [0xCB#8, 0x7D#8]
  | .bit7AtHl => [0xCB#8, 0x7E#8]
  | .bit7A => [0xCB#8, 0x7F#8]
  | .res0B => [0xCB#8, 0x80#8]
  | .res0C => [0xCB#8, 0x81#8]
  | .res0D => [0xCB#8, 0x82#8]
  | .res0E => [0xCB#8, 0x83#8]
  | .res0H => [0xCB#8, 0x84#8]
  | .res0L => [0xCB#8, 0x85#8]
  | .res0AtHl => [0xCB#8, 0x86#8]
  | .res0A => [0xCB#8, 0x87#8]
  | .res1B => [0xCB#8, 0x88#8]
  | .res1C => [0xCB#8, 0x89#8]
  | .res1D => [0xCB#8, 0x8A#8]
  | .res1E => [0xCB#8, 0x8B#8]
  | .res1H => [0xCB#8, 0x8C#8]
  | .res1L => [0xCB#8, 0x8D#8]
  | .res1AtHl => [0xCB#8, 0x8E#8]
  | .res1A => [0xCB#8, 0x8F#8]
  | .res2B => [0xCB#8, 0x90#8]
  | .res2C => [0xCB#8, 0x91#8]
  | .res2D => [0xCB#8, 0x92#8]
  | .res2E => [0xCB#8, 0x93#8]
  | .res2H => [0xCB#8, 0x94#8]
  | .res2L => [0xCB#8, 0x95#8]
  | .res2AtHl => [0xCB#8, 0x96#8]
  | .res2A => [0xCB#8, 0x97#8]
  | .res3B => [0xCB#8, 0x98#8]
  | .res3C => [0xCB#8, 0x99#8]
  | .res3D => [0xCB#8, 0x9A#8]
  | .res3E => [0xCB#8, 0x9B#8]
  | .res3H => [0xCB#8, 0x9C#8]
  | .res3L => [0xCB#8, 0x9D#8]
  | .res3AtHl => [0xCB#8, 0x9E#8]
  | .res3A => [0xCB#8, 0x9F#8]
  | .res4B => [0xCB#8, 0xA0#8]
  | .res4C => [0xCB#8, 0xA1#8]
  | .res4D => [0xCB#8, 0xA2#8]
  | .res4E => [0xCB#8, 0xA3#8]
  | .res4H => [0xCB#8, 0xA4#8]
  | .res4L => [0xCB#8, 0xA5#8]
  | .res4AtHl => [0xCB#8, 0xA6#8]
  | .res4A => [0xCB#8, 0xA7#8]
  | .res5B => [0xCB#8, 0xA8#8]
  | .res5C => [0xCB#8, 0xA9#8]
  | .res5D => [0xCB#8, 0xAA#8]
  | .res5E => [0xCB#8, 0xAB#8]
  | .res5H => [0xCB#8, 0xAC#8]
  | .res5L => [0xCB#8, 0xAD#8]
  | .res5AtHl => [0xCB#8, 0xAE#8]
  | .res5A => [0xCB#8, 0xAF#8]
  | .res6B => [0xCB#8, 0xB0#8]
  | .res6C => [0xCB#8, 0xB1#8]
  | .res6D => [0xCB#8, 0xB2#8]
  | .res6E => [0xCB#8, 0xB3#8]
  | .res6H => [0xCB#8, 0xB4#8]
  | .res6L => [0xCB#8, 0xB5#8]
  | .res6AtHl => [0xCB#8, 0xB6#8]
  | .res6A => [0xCB#8, 0xB7#8]
  | .res7B => [0xCB#8, 0xB8#8]
  | .res7C => [0xCB#8, 0xB9#8]
  | .res7D => [0xCB#8, 0xBA#8]
  | .res7E => [0xCB#8, 0xBB#8]
  | .res7H => [0xCB#8, 0xBC#8]
  | .res7L => [0xCB#8, 0xBD#8]
  | .res7AtHl => [0xCB#8, 0xBE#8]
  | .res7A => [0xCB#8, 0xBF#8]
  | .set0B => [0xCB#8, 0xC0#8]
  | .set0C => [0xCB#8, 0xC1#8]
  | .set0D => [0xCB#8, 0xC2#8]
  | .set0E => [0xCB#8, 0xC3#8]
  | .set0H => [0xCB#8, 0xC4#8]
  | .set0L => [0xCB#8, 0xC5#8]
  | .set0AtHl => [0xCB#8, 0xC6#8]
  | .set0A => [0xCB#8, 0xC7#8]
  | .set1B => [0xCB#8, 0xC8#8]
  | .set1C => [0xCB#8, 0xC9#8]
  | .set1D => [0xCB#8, 0xCA#8]
  | .set1E => [0xCB#8, 0xCB#8]
  | .set1H => [0xCB#8, 0xCC#8]
  | .set1L => [0xCB#8, 0xCD#8]
  | .set1AtHl => [0xCB#8, 0xCE#8]
  | .set1A => [0xCB#8, 0xCF#8]
  | .set2B => [0xCB#8, 0xD0#8]
  | .set2C => [0xCB#8, 0xD1#8]
  | .set2D => [0xCB#8, 0xD2#8]
  | .set2E => [0xCB#8, 0xD3#8]
  | .set2H => [0xCB#8, 0xD4#8]
  | .set2L => [0xCB#8, 0xD5#8]
  | .set2AtHl => [0xCB#8, 0xD6#8]
  | .set2A => [0xCB#8, 0xD7#8]
  | .set3B => [0xCB#8, 0xD8#8]
  | .set3C => [0xCB#8, 0xD9#8]
  | .set3D => [0xCB#8, 0xDA#8]
  | .set3E => [0xCB#8, 0xDB#8]
  | .set3H => [0xCB#8, 0xDC#8]
  | .set3L => [0xCB#8, 0xDD#8]
  | .set3AtHl => [0xCB#8, 0xDE#8]
  | .set3A => [0xCB#8, 0xDF#8]
  | .set4B => [0xCB#8, 0xE0#8]
  | .set4C => [0xCB#8, 0xE1#8]
  | .set4D => [0xCB#8, 0xE2#8]
  | .set4E => [0xCB#8, 0xE3#8]
  | .set4H => [0xCB#8, 0xE4#8]
  | .set4L => [0xCB#8, 0xE5#8]
  | .set4AtHl => [0xCB#8, 0xE6#8]
  | .set4A => [0xCB#8, 0xE7#8]
  | .set5B => [0xCB#8, 0xE8#8]
  | .set5C => [0xCB#8, 0xE9#8]
  | .set5D => [0xCB#8, 0xEA#8]
  | .set5E => [0xCB#8, 0xEB#8]
  | .set5H => [0xCB#8, 0xEC#8]
  | .set5L => [0xCB#8, 0xED#8]
  | .set5AtHl => [0xCB#8, 0xEE#8]
  | .set5A => [0xCB#8, 0xEF#8]
  | .set6B => [0xCB#8, 0xF0#8]
  | .set6C => [0xCB#8, 0xF1#8]
  | .set6D => [0xCB#8, 0xF2#8]
  | .set6E => [0xCB#8, 0xF3#8]
  | .set6H => [0xCB#8, 0xF4#8]
  | .set6L => [0xCB#8, 0xF5#8]
  | .set6AtHl => [0xCB#8, 0xF6#8]
  | .set6A => [0xCB#8, 0xF7#8]
  | .set7B => [0xCB#8, 0xF8#8]
  | .set7C => [0xCB#8, 0xF9#8]
  | .set7D => [0xCB#8, 0xFA#8]
  | .set7E => [0xCB#8, 0xFB#8]
  | .set7H => [0xCB#8, 0xFC#8]
  | .set7L => [0xCB#8, 0xFD#8]
  | .set7AtHl => [0xCB#8, 0xFE#8]
  | .set7A => [0xCB#8, 0xFF#8]

/-! The opcode table's words (rule R325). -/

/-- The bytes of an instruction given as the table numbers its bits: a primary row's word has the
opcode byte lowest and the later bytes above it; a CB row's word is `0xCBxx`, the prefix byte being
the high byte. Bits not given are 0. The one-byte word 0xCB is the row of the prefix itself. -/
def tableBytes (nbits w : Nat) : List Byte :=
  let b0 := BitVec.ofNat 8 w
  let b1 := BitVec.ofNat 8 (w / 256)
  let b2 := BitVec.ofNat 8 (w / 65536)
  if nbits ≤ 8 then
    if b0 = 0xCB#8 then [b0] else [b0, 0x00#8, 0x00#8]
  else if nbits ≤ 16 then
    if b1 = 0xCB#8 then [b1, b0] else [b0, b1, 0x00#8]
  else [b0, b1, b2]

/-- The instruction the decoder reads from a table word. -/
def decodeTableWord (nbits w : Nat) : Option Instr :=
  match decode (tableBytes nbits w) with
  | .ok i _ => some i
  | .reject _ => none

end Sys2Proof
end

