-- ==== Sys2Proof/Machine/Rotate.lean ====
section
/-! DEFINITION. The rotates and shifts (file 44_rotate_shift_bit.md, rules R521 to R541). -/

namespace Sys2Proof.Machine

/-- RLCA, RRCA, RLA and RRA: Z is cleared, not computed (rules R521 to R524). -/
def rotA (op : Rot) (s : State) : State :=
  s.onCpu (fun c =>
    let r := rotCompute op c.a c.cy
    { c.setFlags false false false r.2 with a := r.1 })

/-- `rot[y] r` (rules R526 to R540, even). -/
def rotReg (op : Rot) (r : Reg8) (s : State) : State :=
  s.onCpu (fun c =>
    let k := rotFlags op (c.get r) c.cy
    (c.leaveFlags k).set r k.result)

/-- `rot[y] (HL)` (rules R527 to R541, odd). -/
def rotAtHl (op : Rot) (s : State) : State :=
  s.modifyAtHl (fun v c =>
    let k := rotFlags op v c.cy
    (k.result, c.leaveFlags k))

/-- `RLCA` (rule R521). -/
def execRlca (s : State) : Result := .next (rotA .rlc s)

/-- `RRCA` (rule R522). -/
def execRrca (s : State) : Result := .next (rotA .rrc s)

/-- `RLA` (rule R523). -/
def execRla (s : State) : Result := .next (rotA .rl s)

/-- `RRA` (rule R524). -/
def execRra (s : State) : Result := .next (rotA .rr s)

/-- `RLC B` (rule R526). -/
def execRlcB (s : State) : Result := .next (rotReg .rlc .b s)

/-- `RLC C` (rule R526). -/
def execRlcC (s : State) : Result := .next (rotReg .rlc .c s)

/-- `RLC D` (rule R526). -/
def execRlcD (s : State) : Result := .next (rotReg .rlc .d s)

/-- `RLC E` (rule R526). -/
def execRlcE (s : State) : Result := .next (rotReg .rlc .e s)

/-- `RLC H` (rule R526). -/
def execRlcH (s : State) : Result := .next (rotReg .rlc .h s)

/-- `RLC L` (rule R526). -/
def execRlcL (s : State) : Result := .next (rotReg .rlc .l s)

/-- `RLC (HL)` (rule R527). -/
def execRlcAtHl (s : State) : Result := .next (rotAtHl .rlc s)

/-- `RLC A` (rule R526). -/
def execRlcA (s : State) : Result := .next (rotReg .rlc .a s)

/-- `RRC B` (rule R528). -/
def execRrcB (s : State) : Result := .next (rotReg .rrc .b s)

/-- `RRC C` (rule R528). -/
def execRrcC (s : State) : Result := .next (rotReg .rrc .c s)

/-- `RRC D` (rule R528). -/
def execRrcD (s : State) : Result := .next (rotReg .rrc .d s)

/-- `RRC E` (rule R528). -/
def execRrcE (s : State) : Result := .next (rotReg .rrc .e s)

/-- `RRC H` (rule R528). -/
def execRrcH (s : State) : Result := .next (rotReg .rrc .h s)

/-- `RRC L` (rule R528). -/
def execRrcL (s : State) : Result := .next (rotReg .rrc .l s)

/-- `RRC (HL)` (rule R529). -/
def execRrcAtHl (s : State) : Result := .next (rotAtHl .rrc s)

/-- `RRC A` (rule R528). -/
def execRrcA (s : State) : Result := .next (rotReg .rrc .a s)

/-- `RL B` (rule R530). -/
def execRlB (s : State) : Result := .next (rotReg .rl .b s)

/-- `RL C` (rule R530). -/
def execRlC (s : State) : Result := .next (rotReg .rl .c s)

/-- `RL D` (rule R530). -/
def execRlD (s : State) : Result := .next (rotReg .rl .d s)

/-- `RL E` (rule R530). -/
def execRlE (s : State) : Result := .next (rotReg .rl .e s)

/-- `RL H` (rule R530). -/
def execRlH (s : State) : Result := .next (rotReg .rl .h s)

/-- `RL L` (rule R530). -/
def execRlL (s : State) : Result := .next (rotReg .rl .l s)

/-- `RL (HL)` (rule R531). -/
def execRlAtHl (s : State) : Result := .next (rotAtHl .rl s)

/-- `RL A` (rule R530). -/
def execRlA (s : State) : Result := .next (rotReg .rl .a s)

/-- `RR B` (rule R532). -/
def execRrB (s : State) : Result := .next (rotReg .rr .b s)

/-- `RR C` (rule R532). -/
def execRrC (s : State) : Result := .next (rotReg .rr .c s)

/-- `RR D` (rule R532). -/
def execRrD (s : State) : Result := .next (rotReg .rr .d s)

/-- `RR E` (rule R532). -/
def execRrE (s : State) : Result := .next (rotReg .rr .e s)

/-- `RR H` (rule R532). -/
def execRrH (s : State) : Result := .next (rotReg .rr .h s)

/-- `RR L` (rule R532). -/
def execRrL (s : State) : Result := .next (rotReg .rr .l s)

/-- `RR (HL)` (rule R533). -/
def execRrAtHl (s : State) : Result := .next (rotAtHl .rr s)

/-- `RR A` (rule R532). -/
def execRrA (s : State) : Result := .next (rotReg .rr .a s)

/-- `SLA B` (rule R534). -/
def execSlaB (s : State) : Result := .next (rotReg .sla .b s)

/-- `SLA C` (rule R534). -/
def execSlaC (s : State) : Result := .next (rotReg .sla .c s)

/-- `SLA D` (rule R534). -/
def execSlaD (s : State) : Result := .next (rotReg .sla .d s)

/-- `SLA E` (rule R534). -/
def execSlaE (s : State) : Result := .next (rotReg .sla .e s)

/-- `SLA H` (rule R534). -/
def execSlaH (s : State) : Result := .next (rotReg .sla .h s)

/-- `SLA L` (rule R534). -/
def execSlaL (s : State) : Result := .next (rotReg .sla .l s)

/-- `SLA (HL)` (rule R535). -/
def execSlaAtHl (s : State) : Result := .next (rotAtHl .sla s)

/-- `SLA A` (rule R534). -/
def execSlaA (s : State) : Result := .next (rotReg .sla .a s)

/-- `SRA B` (rule R536). -/
def execSraB (s : State) : Result := .next (rotReg .sra .b s)

/-- `SRA C` (rule R536). -/
def execSraC (s : State) : Result := .next (rotReg .sra .c s)

/-- `SRA D` (rule R536). -/
def execSraD (s : State) : Result := .next (rotReg .sra .d s)

/-- `SRA E` (rule R536). -/
def execSraE (s : State) : Result := .next (rotReg .sra .e s)

/-- `SRA H` (rule R536). -/
def execSraH (s : State) : Result := .next (rotReg .sra .h s)

/-- `SRA L` (rule R536). -/
def execSraL (s : State) : Result := .next (rotReg .sra .l s)

/-- `SRA (HL)` (rule R537). -/
def execSraAtHl (s : State) : Result := .next (rotAtHl .sra s)

/-- `SRA A` (rule R536). -/
def execSraA (s : State) : Result := .next (rotReg .sra .a s)

/-- `SWAP B` (rule R538). -/
def execSwapB (s : State) : Result := .next (rotReg .swap .b s)

/-- `SWAP C` (rule R538). -/
def execSwapC (s : State) : Result := .next (rotReg .swap .c s)

/-- `SWAP D` (rule R538). -/
def execSwapD (s : State) : Result := .next (rotReg .swap .d s)

/-- `SWAP E` (rule R538). -/
def execSwapE (s : State) : Result := .next (rotReg .swap .e s)

/-- `SWAP H` (rule R538). -/
def execSwapH (s : State) : Result := .next (rotReg .swap .h s)

/-- `SWAP L` (rule R538). -/
def execSwapL (s : State) : Result := .next (rotReg .swap .l s)

/-- `SWAP (HL)` (rule R539). -/
def execSwapAtHl (s : State) : Result := .next (rotAtHl .swap s)

/-- `SWAP A` (rule R538). -/
def execSwapA (s : State) : Result := .next (rotReg .swap .a s)

/-- `SRL B` (rule R540). -/
def execSrlB (s : State) : Result := .next (rotReg .srl .b s)

/-- `SRL C` (rule R540). -/
def execSrlC (s : State) : Result := .next (rotReg .srl .c s)

/-- `SRL D` (rule R540). -/
def execSrlD (s : State) : Result := .next (rotReg .srl .d s)

/-- `SRL E` (rule R540). -/
def execSrlE (s : State) : Result := .next (rotReg .srl .e s)

/-- `SRL H` (rule R540). -/
def execSrlH (s : State) : Result := .next (rotReg .srl .h s)

/-- `SRL L` (rule R540). -/
def execSrlL (s : State) : Result := .next (rotReg .srl .l s)

/-- `SRL (HL)` (rule R541). -/
def execSrlAtHl (s : State) : Result := .next (rotAtHl .srl s)

/-- `SRL A` (rule R540). -/
def execSrlA (s : State) : Result := .next (rotReg .srl .a s)

end Sys2Proof.Machine
end

