-- ==== Sys2Proof/Machine/Bits.lean ====
section
/-! DEFINITION. The bit instructions (file 44_rotate_shift_bit.md, rules R542 to R547) and the 0xCB
prefix (rule R525). -/

namespace Sys2Proof.Machine

/-- `BIT b` of a register or the byte at HL, which it only reads (rules R542, R543). -/
def testBit (b : Nat) (x : Source) (s : State) : State :=
  let r := x.read s
  r.2.onCpu (fun c => c.setFlags (!r.1.getLsbD b) false true c.cy)

/-- `v & ~(1 << b)` (rules R544, R545). -/
def clearedBit (b : Nat) (v : Byte) : Byte := v &&& ~~~(1#8 <<< b)

/-- `v | (1 << b)` (rules R546, R547). -/
def raisedBit (b : Nat) (v : Byte) : Byte := v ||| (1#8 <<< b)

/-- `RES b,r` (rule R544). -/
def resetBit (b : Nat) (r : Reg8) (s : State) : State :=
  s.onCpu (fun c => c.set r (clearedBit b (c.get r)))

/-- `SET b,r` (rule R546). -/
def setBit (b : Nat) (r : Reg8) (s : State) : State :=
  s.onCpu (fun c => c.set r (raisedBit b (c.get r)))

/-- `RES b,(HL)` (rule R545). -/
def resetBitAtHl (b : Nat) (s : State) : State := s.modifyAtHl (fun v c => (clearedBit b v, c))

/-- `SET b,(HL)` (rule R547). -/
def setBitAtHl (b : Nat) (s : State) : State := s.modifyAtHl (fun v c => (raisedBit b v, c))

/-- The row of the CB table a second byte selects, by its fields `g`, `y` and `z` (rules R301, R315,
R525). -/
def runCbRow (op2 : Byte) (s : State) : State :=
  let y := fieldY op2
  match fieldX op2, reg8Field (fieldZ op2) with
  | 0, some r => rotReg (rotField y) r s
  | 0, none => rotAtHl (rotField y) s
  | 1, some r => testBit y.val (.reg r) s
  | 1, none => testBit y.val .atHl s
  | 2, some r => resetBit y.val r s
  | 2, none => resetBitAtHl y.val s
  | 3, some r => setBit y.val r s
  | 3, none => setBitAtHl y.val s

/-- `op2 <- Fetch8(); execute the rule of the CB-table row` (rule R525). -/
def runPrefixed (s : State) : State :=
  let r := s.fetch8
  runCbRow r.1 r.2

/-- `PREFIX CB` (rule R525). -/
def execPrefixCb (s : State) : Result := .next (runPrefixed s)

/-- `BIT 0,B` (rule R542). -/
def execBit0B (s : State) : Result := .next (testBit 0 (.reg .b) s)

/-- `BIT 0,C` (rule R542). -/
def execBit0C (s : State) : Result := .next (testBit 0 (.reg .c) s)

/-- `BIT 0,D` (rule R542). -/
def execBit0D (s : State) : Result := .next (testBit 0 (.reg .d) s)

/-- `BIT 0,E` (rule R542). -/
def execBit0E (s : State) : Result := .next (testBit 0 (.reg .e) s)

/-- `BIT 0,H` (rule R542). -/
def execBit0H (s : State) : Result := .next (testBit 0 (.reg .h) s)

/-- `BIT 0,L` (rule R542). -/
def execBit0L (s : State) : Result := .next (testBit 0 (.reg .l) s)

/-- `BIT 0,(HL)` (rule R543). -/
def execBit0AtHl (s : State) : Result := .next (testBit 0 .atHl s)

/-- `BIT 0,A` (rule R542). -/
def execBit0A (s : State) : Result := .next (testBit 0 (.reg .a) s)

/-- `BIT 1,B` (rule R542). -/
def execBit1B (s : State) : Result := .next (testBit 1 (.reg .b) s)

/-- `BIT 1,C` (rule R542). -/
def execBit1C (s : State) : Result := .next (testBit 1 (.reg .c) s)

/-- `BIT 1,D` (rule R542). -/
def execBit1D (s : State) : Result := .next (testBit 1 (.reg .d) s)

/-- `BIT 1,E` (rule R542). -/
def execBit1E (s : State) : Result := .next (testBit 1 (.reg .e) s)

/-- `BIT 1,H` (rule R542). -/
def execBit1H (s : State) : Result := .next (testBit 1 (.reg .h) s)

/-- `BIT 1,L` (rule R542). -/
def execBit1L (s : State) : Result := .next (testBit 1 (.reg .l) s)

/-- `BIT 1,(HL)` (rule R543). -/
def execBit1AtHl (s : State) : Result := .next (testBit 1 .atHl s)

/-- `BIT 1,A` (rule R542). -/
def execBit1A (s : State) : Result := .next (testBit 1 (.reg .a) s)

/-- `BIT 2,B` (rule R542). -/
def execBit2B (s : State) : Result := .next (testBit 2 (.reg .b) s)

/-- `BIT 2,C` (rule R542). -/
def execBit2C (s : State) : Result := .next (testBit 2 (.reg .c) s)

/-- `BIT 2,D` (rule R542). -/
def execBit2D (s : State) : Result := .next (testBit 2 (.reg .d) s)

/-- `BIT 2,E` (rule R542). -/
def execBit2E (s : State) : Result := .next (testBit 2 (.reg .e) s)

/-- `BIT 2,H` (rule R542). -/
def execBit2H (s : State) : Result := .next (testBit 2 (.reg .h) s)

/-- `BIT 2,L` (rule R542). -/
def execBit2L (s : State) : Result := .next (testBit 2 (.reg .l) s)

/-- `BIT 2,(HL)` (rule R543). -/
def execBit2AtHl (s : State) : Result := .next (testBit 2 .atHl s)

/-- `BIT 2,A` (rule R542). -/
def execBit2A (s : State) : Result := .next (testBit 2 (.reg .a) s)

/-- `BIT 3,B` (rule R542). -/
def execBit3B (s : State) : Result := .next (testBit 3 (.reg .b) s)

/-- `BIT 3,C` (rule R542). -/
def execBit3C (s : State) : Result := .next (testBit 3 (.reg .c) s)

/-- `BIT 3,D` (rule R542). -/
def execBit3D (s : State) : Result := .next (testBit 3 (.reg .d) s)

/-- `BIT 3,E` (rule R542). -/
def execBit3E (s : State) : Result := .next (testBit 3 (.reg .e) s)

/-- `BIT 3,H` (rule R542). -/
def execBit3H (s : State) : Result := .next (testBit 3 (.reg .h) s)

/-- `BIT 3,L` (rule R542). -/
def execBit3L (s : State) : Result := .next (testBit 3 (.reg .l) s)

/-- `BIT 3,(HL)` (rule R543). -/
def execBit3AtHl (s : State) : Result := .next (testBit 3 .atHl s)

/-- `BIT 3,A` (rule R542). -/
def execBit3A (s : State) : Result := .next (testBit 3 (.reg .a) s)

/-- `BIT 4,B` (rule R542). -/
def execBit4B (s : State) : Result := .next (testBit 4 (.reg .b) s)

/-- `BIT 4,C` (rule R542). -/
def execBit4C (s : State) : Result := .next (testBit 4 (.reg .c) s)

/-- `BIT 4,D` (rule R542). -/
def execBit4D (s : State) : Result := .next (testBit 4 (.reg .d) s)

/-- `BIT 4,E` (rule R542). -/
def execBit4E (s : State) : Result := .next (testBit 4 (.reg .e) s)

/-- `BIT 4,H` (rule R542). -/
def execBit4H (s : State) : Result := .next (testBit 4 (.reg .h) s)

/-- `BIT 4,L` (rule R542). -/
def execBit4L (s : State) : Result := .next (testBit 4 (.reg .l) s)

/-- `BIT 4,(HL)` (rule R543). -/
def execBit4AtHl (s : State) : Result := .next (testBit 4 .atHl s)

/-- `BIT 4,A` (rule R542). -/
def execBit4A (s : State) : Result := .next (testBit 4 (.reg .a) s)

/-- `BIT 5,B` (rule R542). -/
def execBit5B (s : State) : Result := .next (testBit 5 (.reg .b) s)

/-- `BIT 5,C` (rule R542). -/
def execBit5C (s : State) : Result := .next (testBit 5 (.reg .c) s)

/-- `BIT 5,D` (rule R542). -/
def execBit5D (s : State) : Result := .next (testBit 5 (.reg .d) s)

/-- `BIT 5,E` (rule R542). -/
def execBit5E (s : State) : Result := .next (testBit 5 (.reg .e) s)

/-- `BIT 5,H` (rule R542). -/
def execBit5H (s : State) : Result := .next (testBit 5 (.reg .h) s)

/-- `BIT 5,L` (rule R542). -/
def execBit5L (s : State) : Result := .next (testBit 5 (.reg .l) s)

/-- `BIT 5,(HL)` (rule R543). -/
def execBit5AtHl (s : State) : Result := .next (testBit 5 .atHl s)

/-- `BIT 5,A` (rule R542). -/
def execBit5A (s : State) : Result := .next (testBit 5 (.reg .a) s)

/-- `BIT 6,B` (rule R542). -/
def execBit6B (s : State) : Result := .next (testBit 6 (.reg .b) s)

/-- `BIT 6,C` (rule R542). -/
def execBit6C (s : State) : Result := .next (testBit 6 (.reg .c) s)

/-- `BIT 6,D` (rule R542). -/
def execBit6D (s : State) : Result := .next (testBit 6 (.reg .d) s)

/-- `BIT 6,E` (rule R542). -/
def execBit6E (s : State) : Result := .next (testBit 6 (.reg .e) s)

/-- `BIT 6,H` (rule R542). -/
def execBit6H (s : State) : Result := .next (testBit 6 (.reg .h) s)

/-- `BIT 6,L` (rule R542). -/
def execBit6L (s : State) : Result := .next (testBit 6 (.reg .l) s)

/-- `BIT 6,(HL)` (rule R543). -/
def execBit6AtHl (s : State) : Result := .next (testBit 6 .atHl s)

/-- `BIT 6,A` (rule R542). -/
def execBit6A (s : State) : Result := .next (testBit 6 (.reg .a) s)

/-- `BIT 7,B` (rule R542). -/
def execBit7B (s : State) : Result := .next (testBit 7 (.reg .b) s)

/-- `BIT 7,C` (rule R542). -/
def execBit7C (s : State) : Result := .next (testBit 7 (.reg .c) s)

/-- `BIT 7,D` (rule R542). -/
def execBit7D (s : State) : Result := .next (testBit 7 (.reg .d) s)

/-- `BIT 7,E` (rule R542). -/
def execBit7E (s : State) : Result := .next (testBit 7 (.reg .e) s)

/-- `BIT 7,H` (rule R542). -/
def execBit7H (s : State) : Result := .next (testBit 7 (.reg .h) s)

/-- `BIT 7,L` (rule R542). -/
def execBit7L (s : State) : Result := .next (testBit 7 (.reg .l) s)

/-- `BIT 7,(HL)` (rule R543). -/
def execBit7AtHl (s : State) : Result := .next (testBit 7 .atHl s)

/-- `BIT 7,A` (rule R542). -/
def execBit7A (s : State) : Result := .next (testBit 7 (.reg .a) s)

/-- `RES 0,B` (rule R544). -/
def execRes0B (s : State) : Result := .next (resetBit 0 .b s)

/-- `RES 0,C` (rule R544). -/
def execRes0C (s : State) : Result := .next (resetBit 0 .c s)

/-- `RES 0,D` (rule R544). -/
def execRes0D (s : State) : Result := .next (resetBit 0 .d s)

/-- `RES 0,E` (rule R544). -/
def execRes0E (s : State) : Result := .next (resetBit 0 .e s)

/-- `RES 0,H` (rule R544). -/
def execRes0H (s : State) : Result := .next (resetBit 0 .h s)

/-- `RES 0,L` (rule R544). -/
def execRes0L (s : State) : Result := .next (resetBit 0 .l s)

/-- `RES 0,(HL)` (rule R545). -/
def execRes0AtHl (s : State) : Result := .next (resetBitAtHl 0 s)

/-- `RES 0,A` (rule R544). -/
def execRes0A (s : State) : Result := .next (resetBit 0 .a s)

/-- `RES 1,B` (rule R544). -/
def execRes1B (s : State) : Result := .next (resetBit 1 .b s)

/-- `RES 1,C` (rule R544). -/
def execRes1C (s : State) : Result := .next (resetBit 1 .c s)

/-- `RES 1,D` (rule R544). -/
def execRes1D (s : State) : Result := .next (resetBit 1 .d s)

/-- `RES 1,E` (rule R544). -/
def execRes1E (s : State) : Result := .next (resetBit 1 .e s)

/-- `RES 1,H` (rule R544). -/
def execRes1H (s : State) : Result := .next (resetBit 1 .h s)

/-- `RES 1,L` (rule R544). -/
def execRes1L (s : State) : Result := .next (resetBit 1 .l s)

/-- `RES 1,(HL)` (rule R545). -/
def execRes1AtHl (s : State) : Result := .next (resetBitAtHl 1 s)

/-- `RES 1,A` (rule R544). -/
def execRes1A (s : State) : Result := .next (resetBit 1 .a s)

/-- `RES 2,B` (rule R544). -/
def execRes2B (s : State) : Result := .next (resetBit 2 .b s)

/-- `RES 2,C` (rule R544). -/
def execRes2C (s : State) : Result := .next (resetBit 2 .c s)

/-- `RES 2,D` (rule R544). -/
def execRes2D (s : State) : Result := .next (resetBit 2 .d s)

/-- `RES 2,E` (rule R544). -/
def execRes2E (s : State) : Result := .next (resetBit 2 .e s)

/-- `RES 2,H` (rule R544). -/
def execRes2H (s : State) : Result := .next (resetBit 2 .h s)

/-- `RES 2,L` (rule R544). -/
def execRes2L (s : State) : Result := .next (resetBit 2 .l s)

/-- `RES 2,(HL)` (rule R545). -/
def execRes2AtHl (s : State) : Result := .next (resetBitAtHl 2 s)

/-- `RES 2,A` (rule R544). -/
def execRes2A (s : State) : Result := .next (resetBit 2 .a s)

/-- `RES 3,B` (rule R544). -/
def execRes3B (s : State) : Result := .next (resetBit 3 .b s)

/-- `RES 3,C` (rule R544). -/
def execRes3C (s : State) : Result := .next (resetBit 3 .c s)

/-- `RES 3,D` (rule R544). -/
def execRes3D (s : State) : Result := .next (resetBit 3 .d s)

/-- `RES 3,E` (rule R544). -/
def execRes3E (s : State) : Result := .next (resetBit 3 .e s)

/-- `RES 3,H` (rule R544). -/
def execRes3H (s : State) : Result := .next (resetBit 3 .h s)

/-- `RES 3,L` (rule R544). -/
def execRes3L (s : State) : Result := .next (resetBit 3 .l s)

/-- `RES 3,(HL)` (rule R545). -/
def execRes3AtHl (s : State) : Result := .next (resetBitAtHl 3 s)

/-- `RES 3,A` (rule R544). -/
def execRes3A (s : State) : Result := .next (resetBit 3 .a s)

/-- `RES 4,B` (rule R544). -/
def execRes4B (s : State) : Result := .next (resetBit 4 .b s)

/-- `RES 4,C` (rule R544). -/
def execRes4C (s : State) : Result := .next (resetBit 4 .c s)

/-- `RES 4,D` (rule R544). -/
def execRes4D (s : State) : Result := .next (resetBit 4 .d s)

/-- `RES 4,E` (rule R544). -/
def execRes4E (s : State) : Result := .next (resetBit 4 .e s)

/-- `RES 4,H` (rule R544). -/
def execRes4H (s : State) : Result := .next (resetBit 4 .h s)

/-- `RES 4,L` (rule R544). -/
def execRes4L (s : State) : Result := .next (resetBit 4 .l s)

/-- `RES 4,(HL)` (rule R545). -/
def execRes4AtHl (s : State) : Result := .next (resetBitAtHl 4 s)

/-- `RES 4,A` (rule R544). -/
def execRes4A (s : State) : Result := .next (resetBit 4 .a s)

/-- `RES 5,B` (rule R544). -/
def execRes5B (s : State) : Result := .next (resetBit 5 .b s)

/-- `RES 5,C` (rule R544). -/
def execRes5C (s : State) : Result := .next (resetBit 5 .c s)

/-- `RES 5,D` (rule R544). -/
def execRes5D (s : State) : Result := .next (resetBit 5 .d s)

/-- `RES 5,E` (rule R544). -/
def execRes5E (s : State) : Result := .next (resetBit 5 .e s)

/-- `RES 5,H` (rule R544). -/
def execRes5H (s : State) : Result := .next (resetBit 5 .h s)

/-- `RES 5,L` (rule R544). -/
def execRes5L (s : State) : Result := .next (resetBit 5 .l s)

/-- `RES 5,(HL)` (rule R545). -/
def execRes5AtHl (s : State) : Result := .next (resetBitAtHl 5 s)

/-- `RES 5,A` (rule R544). -/
def execRes5A (s : State) : Result := .next (resetBit 5 .a s)

/-- `RES 6,B` (rule R544). -/
def execRes6B (s : State) : Result := .next (resetBit 6 .b s)

/-- `RES 6,C` (rule R544). -/
def execRes6C (s : State) : Result := .next (resetBit 6 .c s)

/-- `RES 6,D` (rule R544). -/
def execRes6D (s : State) : Result := .next (resetBit 6 .d s)

/-- `RES 6,E` (rule R544). -/
def execRes6E (s : State) : Result := .next (resetBit 6 .e s)

/-- `RES 6,H` (rule R544). -/
def execRes6H (s : State) : Result := .next (resetBit 6 .h s)

/-- `RES 6,L` (rule R544). -/
def execRes6L (s : State) : Result := .next (resetBit 6 .l s)

/-- `RES 6,(HL)` (rule R545). -/
def execRes6AtHl (s : State) : Result := .next (resetBitAtHl 6 s)

/-- `RES 6,A` (rule R544). -/
def execRes6A (s : State) : Result := .next (resetBit 6 .a s)

/-- `RES 7,B` (rule R544). -/
def execRes7B (s : State) : Result := .next (resetBit 7 .b s)

/-- `RES 7,C` (rule R544). -/
def execRes7C (s : State) : Result := .next (resetBit 7 .c s)

/-- `RES 7,D` (rule R544). -/
def execRes7D (s : State) : Result := .next (resetBit 7 .d s)

/-- `RES 7,E` (rule R544). -/
def execRes7E (s : State) : Result := .next (resetBit 7 .e s)

/-- `RES 7,H` (rule R544). -/
def execRes7H (s : State) : Result := .next (resetBit 7 .h s)

/-- `RES 7,L` (rule R544). -/
def execRes7L (s : State) : Result := .next (resetBit 7 .l s)

/-- `RES 7,(HL)` (rule R545). -/
def execRes7AtHl (s : State) : Result := .next (resetBitAtHl 7 s)

/-- `RES 7,A` (rule R544). -/
def execRes7A (s : State) : Result := .next (resetBit 7 .a s)

/-- `SET 0,B` (rule R546). -/
def execSet0B (s : State) : Result := .next (setBit 0 .b s)

/-- `SET 0,C` (rule R546). -/
def execSet0C (s : State) : Result := .next (setBit 0 .c s)

/-- `SET 0,D` (rule R546). -/
def execSet0D (s : State) : Result := .next (setBit 0 .d s)

/-- `SET 0,E` (rule R546). -/
def execSet0E (s : State) : Result := .next (setBit 0 .e s)

/-- `SET 0,H` (rule R546). -/
def execSet0H (s : State) : Result := .next (setBit 0 .h s)

/-- `SET 0,L` (rule R546). -/
def execSet0L (s : State) : Result := .next (setBit 0 .l s)

/-- `SET 0,(HL)` (rule R547). -/
def execSet0AtHl (s : State) : Result := .next (setBitAtHl 0 s)

/-- `SET 0,A` (rule R546). -/
def execSet0A (s : State) : Result := .next (setBit 0 .a s)

/-- `SET 1,B` (rule R546). -/
def execSet1B (s : State) : Result := .next (setBit 1 .b s)

/-- `SET 1,C` (rule R546). -/
def execSet1C (s : State) : Result := .next (setBit 1 .c s)

/-- `SET 1,D` (rule R546). -/
def execSet1D (s : State) : Result := .next (setBit 1 .d s)

/-- `SET 1,E` (rule R546). -/
def execSet1E (s : State) : Result := .next (setBit 1 .e s)

/-- `SET 1,H` (rule R546). -/
def execSet1H (s : State) : Result := .next (setBit 1 .h s)

/-- `SET 1,L` (rule R546). -/
def execSet1L (s : State) : Result := .next (setBit 1 .l s)

/-- `SET 1,(HL)` (rule R547). -/
def execSet1AtHl (s : State) : Result := .next (setBitAtHl 1 s)

/-- `SET 1,A` (rule R546). -/
def execSet1A (s : State) : Result := .next (setBit 1 .a s)

/-- `SET 2,B` (rule R546). -/
def execSet2B (s : State) : Result := .next (setBit 2 .b s)

/-- `SET 2,C` (rule R546). -/
def execSet2C (s : State) : Result := .next (setBit 2 .c s)

/-- `SET 2,D` (rule R546). -/
def execSet2D (s : State) : Result := .next (setBit 2 .d s)

/-- `SET 2,E` (rule R546). -/
def execSet2E (s : State) : Result := .next (setBit 2 .e s)

/-- `SET 2,H` (rule R546). -/
def execSet2H (s : State) : Result := .next (setBit 2 .h s)

/-- `SET 2,L` (rule R546). -/
def execSet2L (s : State) : Result := .next (setBit 2 .l s)

/-- `SET 2,(HL)` (rule R547). -/
def execSet2AtHl (s : State) : Result := .next (setBitAtHl 2 s)

/-- `SET 2,A` (rule R546). -/
def execSet2A (s : State) : Result := .next (setBit 2 .a s)

/-- `SET 3,B` (rule R546). -/
def execSet3B (s : State) : Result := .next (setBit 3 .b s)

/-- `SET 3,C` (rule R546). -/
def execSet3C (s : State) : Result := .next (setBit 3 .c s)

/-- `SET 3,D` (rule R546). -/
def execSet3D (s : State) : Result := .next (setBit 3 .d s)

/-- `SET 3,E` (rule R546). -/
def execSet3E (s : State) : Result := .next (setBit 3 .e s)

/-- `SET 3,H` (rule R546). -/
def execSet3H (s : State) : Result := .next (setBit 3 .h s)

/-- `SET 3,L` (rule R546). -/
def execSet3L (s : State) : Result := .next (setBit 3 .l s)

/-- `SET 3,(HL)` (rule R547). -/
def execSet3AtHl (s : State) : Result := .next (setBitAtHl 3 s)

/-- `SET 3,A` (rule R546). -/
def execSet3A (s : State) : Result := .next (setBit 3 .a s)

/-- `SET 4,B` (rule R546). -/
def execSet4B (s : State) : Result := .next (setBit 4 .b s)

/-- `SET 4,C` (rule R546). -/
def execSet4C (s : State) : Result := .next (setBit 4 .c s)

/-- `SET 4,D` (rule R546). -/
def execSet4D (s : State) : Result := .next (setBit 4 .d s)

/-- `SET 4,E` (rule R546). -/
def execSet4E (s : State) : Result := .next (setBit 4 .e s)

/-- `SET 4,H` (rule R546). -/
def execSet4H (s : State) : Result := .next (setBit 4 .h s)

/-- `SET 4,L` (rule R546). -/
def execSet4L (s : State) : Result := .next (setBit 4 .l s)

/-- `SET 4,(HL)` (rule R547). -/
def execSet4AtHl (s : State) : Result := .next (setBitAtHl 4 s)

/-- `SET 4,A` (rule R546). -/
def execSet4A (s : State) : Result := .next (setBit 4 .a s)

/-- `SET 5,B` (rule R546). -/
def execSet5B (s : State) : Result := .next (setBit 5 .b s)

/-- `SET 5,C` (rule R546). -/
def execSet5C (s : State) : Result := .next (setBit 5 .c s)

/-- `SET 5,D` (rule R546). -/
def execSet5D (s : State) : Result := .next (setBit 5 .d s)

/-- `SET 5,E` (rule R546). -/
def execSet5E (s : State) : Result := .next (setBit 5 .e s)

/-- `SET 5,H` (rule R546). -/
def execSet5H (s : State) : Result := .next (setBit 5 .h s)

/-- `SET 5,L` (rule R546). -/
def execSet5L (s : State) : Result := .next (setBit 5 .l s)

/-- `SET 5,(HL)` (rule R547). -/
def execSet5AtHl (s : State) : Result := .next (setBitAtHl 5 s)

/-- `SET 5,A` (rule R546). -/
def execSet5A (s : State) : Result := .next (setBit 5 .a s)

/-- `SET 6,B` (rule R546). -/
def execSet6B (s : State) : Result := .next (setBit 6 .b s)

/-- `SET 6,C` (rule R546). -/
def execSet6C (s : State) : Result := .next (setBit 6 .c s)

/-- `SET 6,D` (rule R546). -/
def execSet6D (s : State) : Result := .next (setBit 6 .d s)

/-- `SET 6,E` (rule R546). -/
def execSet6E (s : State) : Result := .next (setBit 6 .e s)

/-- `SET 6,H` (rule R546). -/
def execSet6H (s : State) : Result := .next (setBit 6 .h s)

/-- `SET 6,L` (rule R546). -/
def execSet6L (s : State) : Result := .next (setBit 6 .l s)

/-- `SET 6,(HL)` (rule R547). -/
def execSet6AtHl (s : State) : Result := .next (setBitAtHl 6 s)

/-- `SET 6,A` (rule R546). -/
def execSet6A (s : State) : Result := .next (setBit 6 .a s)

/-- `SET 7,B` (rule R546). -/
def execSet7B (s : State) : Result := .next (setBit 7 .b s)

/-- `SET 7,C` (rule R546). -/
def execSet7C (s : State) : Result := .next (setBit 7 .c s)

/-- `SET 7,D` (rule R546). -/
def execSet7D (s : State) : Result := .next (setBit 7 .d s)

/-- `SET 7,E` (rule R546). -/
def execSet7E (s : State) : Result := .next (setBit 7 .e s)

/-- `SET 7,H` (rule R546). -/
def execSet7H (s : State) : Result := .next (setBit 7 .h s)

/-- `SET 7,L` (rule R546). -/
def execSet7L (s : State) : Result := .next (setBit 7 .l s)

/-- `SET 7,(HL)` (rule R547). -/
def execSet7AtHl (s : State) : Result := .next (setBitAtHl 7 s)

/-- `SET 7,A` (rule R546). -/
def execSet7A (s : State) : Result := .next (setBit 7 .a s)

end Sys2Proof.Machine
end

