-- ==== Sys2Proof/Machine/Control.lean ====
section
/-! DEFINITION. Jumps, calls, returns and restarts (file 45_control.md, rules R560 to R571). -/

namespace Sys2Proof.Machine

/-- `PC <- target`. -/
def Cpu.goto (target : Word) (c : Cpu) : Cpu := { c with pc := target }

/-- `JP nn` (rule R561). -/
def jump (nn : Word) (s : State) : State := s.internal.onCpu (Cpu.goto nn)

/-- `JP cc,nn` (rule R562). -/
def jumpIf (cc : Cond) (nn : Word) (s : State) : State :=
  if s.cpu.holds cc then jump nn s else s

/-- `JP HL` (rule R563). -/
def jumpHl (s : State) : State := s.onCpu (fun c => c.goto c.hl)

/-- `JR e`: the displacement is from the address of the next instruction (rule R564). -/
def jumpRel (e : Byte) (s : State) : State :=
  s.internal.onCpu (fun c => c.goto (c.pc + Word.sext e))

/-- `JR cc,e` (rule R565). -/
def jumpRelIf (cc : Cond) (e : Byte) (s : State) : State :=
  if s.cpu.holds cc then jumpRel e s else s

/-- `CALL nn` (rule R566). -/
def call (nn : Word) (s : State) : State :=
  (s.internal.pushWord s.cpu.pc).onCpu (Cpu.goto nn)

/-- `CALL cc,nn` (rule R567). -/
def callIf (cc : Cond) (nn : Word) (s : State) : State :=
  if s.cpu.holds cc then call nn s else s

/-- `RET cc`: the condition takes an M-cycle (rule R569). -/
def returnIf (cc : Cond) (s : State) : State :=
  let t := s.internal
  if t.cpu.holds cc then t.returnPc else t

/-- `RETI`: as RET, then `IME <- 1` at once (rule R570). -/
def returnEnable (s : State) : State :=
  s.returnPc.onCpu (fun c => { c with ime := true })

/-- `RST t` with `t = 8·y` (rule R571). -/
def restart (y : Nat) (s : State) : State :=
  (s.internal.pushWord s.cpu.pc).onCpu (Cpu.goto (BitVec.ofNat 16 (8 * y)))

/-- `JR e` (rule R564). -/
def execJrOff (e : Byte) (s : State) : Result := .next (jumpRel e s)

/-- `JR NZ,e` (rule R565). -/
def execJrNzOff (e : Byte) (s : State) : Result := .next (jumpRelIf .nz e s)

/-- `JR Z,e` (rule R565). -/
def execJrZOff (e : Byte) (s : State) : Result := .next (jumpRelIf .z e s)

/-- `JR NC,e` (rule R565). -/
def execJrNcOff (e : Byte) (s : State) : Result := .next (jumpRelIf .nc e s)

/-- `JR C,e` (rule R565). -/
def execJrCOff (e : Byte) (s : State) : Result := .next (jumpRelIf .c e s)

/-- `RET NZ` (rule R569). -/
def execRetNz (s : State) : Result := .next (returnIf .nz s)

/-- `JP NZ,nn` (rule R562). -/
def execJpNzNn (nn : Word) (s : State) : Result := .next (jumpIf .nz nn s)

/-- `JP nn` (rule R561). -/
def execJpNn (nn : Word) (s : State) : Result := .next (jump nn s)

/-- `CALL NZ,nn` (rule R567). -/
def execCallNzNn (nn : Word) (s : State) : Result := .next (callIf .nz nn s)

/-- `RST 00h` (rule R571). -/
def execRst00 (s : State) : Result := .next (restart 0 s)

/-- `RET Z` (rule R569). -/
def execRetZ (s : State) : Result := .next (returnIf .z s)

/-- `RET` (rule R568). -/
def execRet (s : State) : Result := .next (s.returnPc)

/-- `JP Z,nn` (rule R562). -/
def execJpZNn (nn : Word) (s : State) : Result := .next (jumpIf .z nn s)

/-- `CALL Z,nn` (rule R567). -/
def execCallZNn (nn : Word) (s : State) : Result := .next (callIf .z nn s)

/-- `CALL nn` (rule R566). -/
def execCallNn (nn : Word) (s : State) : Result := .next (call nn s)

/-- `RST 08h` (rule R571). -/
def execRst08 (s : State) : Result := .next (restart 1 s)

/-- `RET NC` (rule R569). -/
def execRetNc (s : State) : Result := .next (returnIf .nc s)

/-- `JP NC,nn` (rule R562). -/
def execJpNcNn (nn : Word) (s : State) : Result := .next (jumpIf .nc nn s)

/-- `CALL NC,nn` (rule R567). -/
def execCallNcNn (nn : Word) (s : State) : Result := .next (callIf .nc nn s)

/-- `RST 10h` (rule R571). -/
def execRst10 (s : State) : Result := .next (restart 2 s)

/-- `RET C` (rule R569). -/
def execRetC (s : State) : Result := .next (returnIf .c s)

/-- `RETI` (rule R570). -/
def execReti (s : State) : Result := .next (returnEnable s)

/-- `JP C,nn` (rule R562). -/
def execJpCNn (nn : Word) (s : State) : Result := .next (jumpIf .c nn s)

/-- `CALL C,nn` (rule R567). -/
def execCallCNn (nn : Word) (s : State) : Result := .next (callIf .c nn s)

/-- `RST 18h` (rule R571). -/
def execRst18 (s : State) : Result := .next (restart 3 s)

/-- `RST 20h` (rule R571). -/
def execRst20 (s : State) : Result := .next (restart 4 s)

/-- `JP HL` (rule R563). -/
def execJpHl (s : State) : Result := .next (jumpHl s)

/-- `RST 28h` (rule R571). -/
def execRst28 (s : State) : Result := .next (restart 5 s)

/-- `RST 30h` (rule R571). -/
def execRst30 (s : State) : Result := .next (restart 6 s)

/-- `RST 38h` (rule R571). -/
def execRst38 (s : State) : Result := .next (restart 7 s)

end Sys2Proof.Machine
end

