-- ==== Sys2Proof/Machine/Load16.lean ====
section
/-! DEFINITION. The 16-bit loads and the stack instructions (file 41_load16.md, rules R431 to R437). -/

namespace Sys2Proof.Machine

/-- `reg16[p] <- nn` (rule R431). -/
def loadPair (p : Pair) (nn : Word) (s : State) : State := s.onCpu (Cpu.setPair p nn)

/-- `LD (nn),SP`, low byte first (rule R432). -/
def storeSp (nn : Word) (s : State) : State :=
  (s.memWrite nn s.cpu.sp.lo).memWrite (nn + 1#16) s.cpu.sp.hi

/-- `SP <- HL; Internal()` (rule R433). -/
def loadSpHl (s : State) : State := (s.onCpu (fun c => { c with sp := c.hl })).internal

/-- `PUSH qq` (rule R434). -/
def push (r : StackPair) (s : State) : State := s.internal.pushWord (s.cpu.getStack r)

/-- `POP qq` (rules R435, R436). -/
def pop (r : StackPair) (s : State) : State :=
  let w := s.popWord
  w.2.onCpu (Cpu.setStack r w.1)

/-- `LD HL,SP+e` (rule R437). -/
def loadHlSp (e : Byte) (s : State) : State :=
  ((s.onCpu (Cpu.offsetFlags e)).internal).onCpu (fun c => c.setHl (c.sp + Word.sext e))

/-- `LD BC,nn` (rule R431). -/
def execLdBcNn (nn : Word) (s : State) : Result := .next (loadPair .bc nn s)

/-- `LD (nn),SP` (rule R432). -/
def execLdAtNnSp (nn : Word) (s : State) : Result := .next (storeSp nn s)

/-- `LD DE,nn` (rule R431). -/
def execLdDeNn (nn : Word) (s : State) : Result := .next (loadPair .de nn s)

/-- `LD HL,nn` (rule R431). -/
def execLdHlNn (nn : Word) (s : State) : Result := .next (loadPair .hl nn s)

/-- `LD SP,nn` (rule R431). -/
def execLdSpNn (nn : Word) (s : State) : Result := .next (loadPair .sp nn s)

/-- `POP BC` (rule R435). -/
def execPopBc (s : State) : Result := .next (pop .bc s)

/-- `PUSH BC` (rule R434). -/
def execPushBc (s : State) : Result := .next (push .bc s)

/-- `POP DE` (rule R435). -/
def execPopDe (s : State) : Result := .next (pop .de s)

/-- `PUSH DE` (rule R434). -/
def execPushDe (s : State) : Result := .next (push .de s)

/-- `POP HL` (rule R435). -/
def execPopHl (s : State) : Result := .next (pop .hl s)

/-- `PUSH HL` (rule R434). -/
def execPushHl (s : State) : Result := .next (push .hl s)

/-- `POP AF` (rule R436). -/
def execPopAf (s : State) : Result := .next (pop .af s)

/-- `PUSH AF` (rule R434). -/
def execPushAf (s : State) : Result := .next (push .af s)

/-- `LD HL,SP+e` (rule R437). -/
def execLdHlSpOff (e : Byte) (s : State) : Result := .next (loadHlSp e s)

/-- `LD SP,HL` (rule R433). -/
def execLdSpHl (s : State) : Result := .next (loadSpHl s)

end Sys2Proof.Machine
end

