-- ==== Sys2Proof/Machine/Load8.lean ====
section
/-! DEFINITION. The 8-bit loads (file 40_load8.md, rules R401 to R419). No load writes a flag. -/

namespace Sys2Proof.Machine

/-- `reg8[y] <- v` for a source operand (rules R401 to R403). -/
def loadReg (dst : Reg8) (x : Source) (s : State) : State :=
  let r := x.read s
  r.2.onCpu (Cpu.set dst r.1)

/-- `A <- MemRead(addr, 1)` (rules R406, R407, R410, R412, R414). -/
def loadA (x : Place) (s : State) : State :=
  let r := s.memRead (x.addr s.cpu)
  r.2.onCpu (Cpu.set .a r.1)

/-- `MemWrite(addr, 1, v)` (rules R404, R405, R408, R409, R411, R413, R415). -/
def store (x : Place) (v : Byte) (s : State) : State := s.memWrite (x.addr s.cpu) v

/-- `A <- MemRead(HL, 1); HL <- trunc_16(HL ± 1)` (rules R416, R417). -/
def loadAStep (d : Word) (s : State) : State :=
  (loadA .hl s).onCpu (fun c => c.setHl (c.hl + d))

/-- `MemWrite(HL, 1, A); HL <- trunc_16(HL ± 1)` (rules R418, R419). -/
def storeAStep (d : Word) (s : State) : State :=
  (store .hl s.cpu.a s).onCpu (fun c => c.setHl (c.hl + d))

/-- `LD (BC),A` (rule R408). -/
def execLdAtBcA (s : State) : Result := .next (store .bc s.cpu.a s)

/-- `LD B,n` (rule R402). -/
def execLdBN (n : Byte) (s : State) : Result := .next (loadReg .b (.imm n) s)

/-- `LD A,(BC)` (rule R406). -/
def execLdAAtBc (s : State) : Result := .next (loadA .bc s)

/-- `LD C,n` (rule R402). -/
def execLdCN (n : Byte) (s : State) : Result := .next (loadReg .c (.imm n) s)

/-- `LD (DE),A` (rule R409). -/
def execLdAtDeA (s : State) : Result := .next (store .de s.cpu.a s)

/-- `LD D,n` (rule R402). -/
def execLdDN (n : Byte) (s : State) : Result := .next (loadReg .d (.imm n) s)

/-- `LD A,(DE)` (rule R407). -/
def execLdAAtDe (s : State) : Result := .next (loadA .de s)

/-- `LD E,n` (rule R402). -/
def execLdEN (n : Byte) (s : State) : Result := .next (loadReg .e (.imm n) s)

/-- `LD (HL+),A` (rule R418). -/
def execLdAtHliA (s : State) : Result := .next (storeAStep 1#16 s)

/-- `LD H,n` (rule R402). -/
def execLdHN (n : Byte) (s : State) : Result := .next (loadReg .h (.imm n) s)

/-- `LD A,(HL+)` (rule R416). -/
def execLdAAtHli (s : State) : Result := .next (loadAStep 1#16 s)

/-- `LD L,n` (rule R402). -/
def execLdLN (n : Byte) (s : State) : Result := .next (loadReg .l (.imm n) s)

/-- `LD (HL-),A` (rule R419). -/
def execLdAtHldA (s : State) : Result := .next (storeAStep (-1#16) s)

/-- `LD (HL),n` (rule R405). -/
def execLdAtHlN (n : Byte) (s : State) : Result := .next (store .hl n s)

/-- `LD A,(HL-)` (rule R417). -/
def execLdAAtHld (s : State) : Result := .next (loadAStep (-1#16) s)

/-- `LD A,n` (rule R402). -/
def execLdAN (n : Byte) (s : State) : Result := .next (loadReg .a (.imm n) s)

/-- `LD B,B` (rule R401). -/
def execLdBB (s : State) : Result := .next (loadReg .b (.reg .b) s)

/-- `LD B,C` (rule R401). -/
def execLdBC (s : State) : Result := .next (loadReg .b (.reg .c) s)

/-- `LD B,D` (rule R401). -/
def execLdBD (s : State) : Result := .next (loadReg .b (.reg .d) s)

/-- `LD B,E` (rule R401). -/
def execLdBE (s : State) : Result := .next (loadReg .b (.reg .e) s)

/-- `LD B,H` (rule R401). -/
def execLdBH (s : State) : Result := .next (loadReg .b (.reg .h) s)

/-- `LD B,L` (rule R401). -/
def execLdBL (s : State) : Result := .next (loadReg .b (.reg .l) s)

/-- `LD B,(HL)` (rule R403). -/
def execLdBAtHl (s : State) : Result := .next (loadReg .b .atHl s)

/-- `LD B,A` (rule R401). -/
def execLdBA (s : State) : Result := .next (loadReg .b (.reg .a) s)

/-- `LD C,B` (rule R401). -/
def execLdCB (s : State) : Result := .next (loadReg .c (.reg .b) s)

/-- `LD C,C` (rule R401). -/
def execLdCC (s : State) : Result := .next (loadReg .c (.reg .c) s)

/-- `LD C,D` (rule R401). -/
def execLdCD (s : State) : Result := .next (loadReg .c (.reg .d) s)

/-- `LD C,E` (rule R401). -/
def execLdCE (s : State) : Result := .next (loadReg .c (.reg .e) s)

/-- `LD C,H` (rule R401). -/
def execLdCH (s : State) : Result := .next (loadReg .c (.reg .h) s)

/-- `LD C,L` (rule R401). -/
def execLdCL (s : State) : Result := .next (loadReg .c (.reg .l) s)

/-- `LD C,(HL)` (rule R403). -/
def execLdCAtHl (s : State) : Result := .next (loadReg .c .atHl s)

/-- `LD C,A` (rule R401). -/
def execLdCA (s : State) : Result := .next (loadReg .c (.reg .a) s)

/-- `LD D,B` (rule R401). -/
def execLdDB (s : State) : Result := .next (loadReg .d (.reg .b) s)

/-- `LD D,C` (rule R401). -/
def execLdDC (s : State) : Result := .next (loadReg .d (.reg .c) s)

/-- `LD D,D` (rule R401). -/
def execLdDD (s : State) : Result := .next (loadReg .d (.reg .d) s)

/-- `LD D,E` (rule R401). -/
def execLdDE (s : State) : Result := .next (loadReg .d (.reg .e) s)

/-- `LD D,H` (rule R401). -/
def execLdDH (s : State) : Result := .next (loadReg .d (.reg .h) s)

/-- `LD D,L` (rule R401). -/
def execLdDL (s : State) : Result := .next (loadReg .d (.reg .l) s)

/-- `LD D,(HL)` (rule R403). -/
def execLdDAtHl (s : State) : Result := .next (loadReg .d .atHl s)

/-- `LD D,A` (rule R401). -/
def execLdDA (s : State) : Result := .next (loadReg .d (.reg .a) s)

/-- `LD E,B` (rule R401). -/
def execLdEB (s : State) : Result := .next (loadReg .e (.reg .b) s)

/-- `LD E,C` (rule R401). -/
def execLdEC (s : State) : Result := .next (loadReg .e (.reg .c) s)

/-- `LD E,D` (rule R401). -/
def execLdED (s : State) : Result := .next (loadReg .e (.reg .d) s)

/-- `LD E,E` (rule R401). -/
def execLdEE (s : State) : Result := .next (loadReg .e (.reg .e) s)

/-- `LD E,H` (rule R401). -/
def execLdEH (s : State) : Result := .next (loadReg .e (.reg .h) s)

/-- `LD E,L` (rule R401). -/
def execLdEL (s : State) : Result := .next (loadReg .e (.reg .l) s)

/-- `LD E,(HL)` (rule R403). -/
def execLdEAtHl (s : State) : Result := .next (loadReg .e .atHl s)

/-- `LD E,A` (rule R401). -/
def execLdEA (s : State) : Result := .next (loadReg .e (.reg .a) s)

/-- `LD H,B` (rule R401). -/
def execLdHB (s : State) : Result := .next (loadReg .h (.reg .b) s)

/-- `LD H,C` (rule R401). -/
def execLdHC (s : State) : Result := .next (loadReg .h (.reg .c) s)

/-- `LD H,D` (rule R401). -/
def execLdHD (s : State) : Result := .next (loadReg .h (.reg .d) s)

/-- `LD H,E` (rule R401). -/
def execLdHE (s : State) : Result := .next (loadReg .h (.reg .e) s)

/-- `LD H,H` (rule R401). -/
def execLdHH (s : State) : Result := .next (loadReg .h (.reg .h) s)

/-- `LD H,L` (rule R401). -/
def execLdHL (s : State) : Result := .next (loadReg .h (.reg .l) s)

/-- `LD H,(HL)` (rule R403). -/
def execLdHAtHl (s : State) : Result := .next (loadReg .h .atHl s)

/-- `LD H,A` (rule R401). -/
def execLdHA (s : State) : Result := .next (loadReg .h (.reg .a) s)

/-- `LD L,B` (rule R401). -/
def execLdLB (s : State) : Result := .next (loadReg .l (.reg .b) s)

/-- `LD L,C` (rule R401). -/
def execLdLC (s : State) : Result := .next (loadReg .l (.reg .c) s)

/-- `LD L,D` (rule R401). -/
def execLdLD (s : State) : Result := .next (loadReg .l (.reg .d) s)

/-- `LD L,E` (rule R401). -/
def execLdLE (s : State) : Result := .next (loadReg .l (.reg .e) s)

/-- `LD L,H` (rule R401). -/
def execLdLH (s : State) : Result := .next (loadReg .l (.reg .h) s)

/-- `LD L,L` (rule R401). -/
def execLdLL (s : State) : Result := .next (loadReg .l (.reg .l) s)

/-- `LD L,(HL)` (rule R403). -/
def execLdLAtHl (s : State) : Result := .next (loadReg .l .atHl s)

/-- `LD L,A` (rule R401). -/
def execLdLA (s : State) : Result := .next (loadReg .l (.reg .a) s)

/-- `LD (HL),B` (rule R404). -/
def execLdAtHlB (s : State) : Result := .next (store .hl (s.cpu.get .b) s)

/-- `LD (HL),C` (rule R404). -/
def execLdAtHlC (s : State) : Result := .next (store .hl (s.cpu.get .c) s)

/-- `LD (HL),D` (rule R404). -/
def execLdAtHlD (s : State) : Result := .next (store .hl (s.cpu.get .d) s)

/-- `LD (HL),E` (rule R404). -/
def execLdAtHlE (s : State) : Result := .next (store .hl (s.cpu.get .e) s)

/-- `LD (HL),H` (rule R404). -/
def execLdAtHlH (s : State) : Result := .next (store .hl (s.cpu.get .h) s)

/-- `LD (HL),L` (rule R404). -/
def execLdAtHlL (s : State) : Result := .next (store .hl (s.cpu.get .l) s)

/-- `LD (HL),A` (rule R404). -/
def execLdAtHlA (s : State) : Result := .next (store .hl (s.cpu.get .a) s)

/-- `LD A,B` (rule R401). -/
def execLdAB (s : State) : Result := .next (loadReg .a (.reg .b) s)

/-- `LD A,C` (rule R401). -/
def execLdAC (s : State) : Result := .next (loadReg .a (.reg .c) s)

/-- `LD A,D` (rule R401). -/
def execLdAD (s : State) : Result := .next (loadReg .a (.reg .d) s)

/-- `LD A,E` (rule R401). -/
def execLdAE (s : State) : Result := .next (loadReg .a (.reg .e) s)

/-- `LD A,H` (rule R401). -/
def execLdAH (s : State) : Result := .next (loadReg .a (.reg .h) s)

/-- `LD A,L` (rule R401). -/
def execLdAL (s : State) : Result := .next (loadReg .a (.reg .l) s)

/-- `LD A,(HL)` (rule R403). -/
def execLdAAtHl (s : State) : Result := .next (loadReg .a .atHl s)

/-- `LD A,A` (rule R401). -/
def execLdAA (s : State) : Result := .next (loadReg .a (.reg .a) s)

/-- `LDH (n),A` (rule R415). -/
def execLdhAtNA (n : Byte) (s : State) : Result := .next (store (.high n) s.cpu.a s)

/-- `LDH (C),A` (rule R413). -/
def execLdhAtCA (s : State) : Result := .next (store .highC s.cpu.a s)

/-- `LD (nn),A` (rule R411). -/
def execLdAtNnA (nn : Word) (s : State) : Result := .next (store (.nn nn) s.cpu.a s)

/-- `LDH A,(n)` (rule R414). -/
def execLdhAAtN (n : Byte) (s : State) : Result := .next (loadA (.high n) s)

/-- `LDH A,(C)` (rule R412). -/
def execLdhAAtC (s : State) : Result := .next (loadA .highC s)

/-- `LD A,(nn)` (rule R410). -/
def execLdAAtNn (nn : Word) (s : State) : Result := .next (loadA (.nn nn) s)

end Sys2Proof.Machine
end

