-- ==== Sys2Proof/Machine/System.lean ====
section
/-! DEFINITION. NOP, HALT, STOP, DI, EI and the illegal opcodes (file 46_system.md, rules R601 to
R606). -/

namespace Sys2Proof.Machine

/-- `HALT` (rule R602): with an interrupt pending it does not halt, and with IME = 0 besides it sets
HALT_BUG. -/
def halt (s : State) : State :=
  if s.irq.pending = 0#5 then s.onCpu (fun c => { c with halted := true })
  else if s.cpu.ime then s
  else s.onCpu (fun c => { c with haltBug := true })

/-- The clearing of the counter by STOP, when `STOP_RESETS_DIV` is set (rules R603, R762). -/
def State.stopDiv (s : State) : State :=
  if s.params.stopResetsDiv then { s with timer := s.timer.clearCounter } else s

/-- `STOP` (rule R603): the second byte is skipped with no bus access. -/
def stop (s : State) : State :=
  let t := s.onCpu (fun c => { c.nextPc with stopped := c.stopped || decide (s.irq.pending = 0#5) })
  t.stopDiv

/-- `DI` (rule R604). -/
def disableInterrupts (s : State) : State :=
  s.onCpu (fun c => { c with ime := false, imePending := false })

/-- `EI` (rule R605). With IME already 1 the bit it sets is never seen: the next opcode fetch moves it
into IME, and a dispatch before that clears it (`State.acknowledge`, assumption log 18). -/
def enableInterrupts (s : State) : State := s.onCpu (fun c => { c with imePending := true })

/-- `NOP` (rule R601). -/
def execNop (s : State) : Result := .next s

/-- `STOP` (rule R603). -/
def execStop (s : State) : Result := .next (stop s)

/-- `HALT` (rule R602). -/
def execHalt (s : State) : Result := .next (halt s)

/-- `ILLEGAL D3h` (rule R606). -/
def execIllegalD3 (s : State) : Result := .next (s.raiseIllegal 0xD3#8)

/-- `ILLEGAL DBh` (rule R606). -/
def execIllegalDB (s : State) : Result := .next (s.raiseIllegal 0xDB#8)

/-- `ILLEGAL DDh` (rule R606). -/
def execIllegalDD (s : State) : Result := .next (s.raiseIllegal 0xDD#8)

/-- `ILLEGAL E3h` (rule R606). -/
def execIllegalE3 (s : State) : Result := .next (s.raiseIllegal 0xE3#8)

/-- `ILLEGAL E4h` (rule R606). -/
def execIllegalE4 (s : State) : Result := .next (s.raiseIllegal 0xE4#8)

/-- `ILLEGAL EBh` (rule R606). -/
def execIllegalEB (s : State) : Result := .next (s.raiseIllegal 0xEB#8)

/-- `ILLEGAL ECh` (rule R606). -/
def execIllegalEC (s : State) : Result := .next (s.raiseIllegal 0xEC#8)

/-- `ILLEGAL EDh` (rule R606). -/
def execIllegalED (s : State) : Result := .next (s.raiseIllegal 0xED#8)

/-- `DI` (rule R604). -/
def execDi (s : State) : Result := .next (disableInterrupts s)

/-- `ILLEGAL F4h` (rule R606). -/
def execIllegalF4 (s : State) : Result := .next (s.raiseIllegal 0xF4#8)

/-- `EI` (rule R605). -/
def execEi (s : State) : Result := .next (enableInterrupts s)

/-- `ILLEGAL FCh` (rule R606). -/
def execIllegalFC (s : State) : Result := .next (s.raiseIllegal 0xFC#8)

/-- `ILLEGAL FDh` (rule R606). -/
def execIllegalFD (s : State) : Result := .next (s.raiseIllegal 0xFD#8)

end Sys2Proof.Machine
end

