-- ==== Sys2Proof/Machine/Step.lean ====
section
/-! DEFINITION. One step of the machine: what the host gives, then one instruction, or one idle M-cycle
of a halted or stopped CPU, followed by the interrupt check (rules R320, R710, R720, R730, R905;
file 95, conventions). -/

namespace Sys2Proof.Machine

/-- What one host input does: commands "are applied between instructions" (rules R900, R906, D45). -/
def HostInput.apply (x : HostInput) (s : State) : State :=
  match x with
  | .none => s
  | .buttons mask => { s with joypad := { s.joypad with input := mask } }
  | .serialIn v => { s with serial := { s.serial with input := v } }
  | .hostTime now => s.tellCart (.hostTime now)
  | .reset fastBoot ramInit => s.resetFrom fastBoot ramInit

/-- Take what the host gives at this step. -/
def State.takeInput (s : State) : State :=
  match s.hostInputs with
  | [] => s
  | x :: rest => x.apply { s with hostInputs := rest }

/-- The bytes an instruction fetches after its opcode, each by `Fetch8()`: as many as its format has,
00 standing for those it has not (rule R300). -/
def State.fetchOperands (n : Nat) (s : State) : (Byte × Byte) × State :=
  match n with
  | 0 => ((0x00#8, 0x00#8), s)
  | 1 =>
    let r := s.fetch8
    ((r.1, 0x00#8), r.2)
  | _ =>
    let r := s.fetch8
    let q := r.2.fetch8
    ((r.1, q.1), q.2)

/-- The fetch of an instruction: its opcode, then its operand bytes (rules R300, R320, R525). -/
def State.fetch (s : State) : Instr × State :=
  let op := s.fetchOpcode
  let bs := op.2.fetchOperands (operandBytes op.1)
  (decodeOp op.1 bs.1.1 bs.1.2, bs.2)

/-- One instruction, followed by the interrupt check (rules R320, R710). -/
def State.runInstruction (s : State) : Result :=
  let f := s.fetch
  match exec f.1 f.2 with
  | .next t => .next t.interruptCheck
  | .fault r => .fault r
  | .refused r => .refused r

/-- What the CPU does in a step: nothing while LOCKED, which is the fault; an idle M-cycle while HALTED
or STOPPED; an instruction otherwise (rules R320, R720, R730). -/
def State.runCpu (s : State) : Result :=
  if s.cpu.locked then .fault (.illegalOpcode s.cpu.pc s.cpu.illegalByte)
  else if s.cpu.halted || s.cpu.stopped then .next s.idle
  else s.runInstruction

/-- One step of the machine. -/
def step (s : State) : Host.Outcome State Fault Refusal := s.takeInput.runCpu

/-- The bytes a fetch reads, put where it reads them. -/
def State.pokeBytes (a : Nat) (bytes : List Byte) (s : State) : State :=
  match bytes with
  | [] => s
  | b :: r => State.pokeBytes (a + 1) r { s with mem := Cells.write s.mem a b }

/-- Where `withFetchWord` puts an instruction: at PC where PC and the two bytes after it are in
cartridge ROM or WRAM, otherwise at the start of WRAM. -/
def State.fetchPlace (s : State) : Word :=
  let n := s.cpu.pc.toNat
  if inCartRom (n + 2) || (inWram n && inWram (n + 2)) then s.cpu.pc else 0xC000#16

/-- The state with an instruction stored where `step` fetches its next one (assumption log 10): a
program is loaded from outside the machine, so this stands for that load. The CPU is made to fetch
(not halted, stopped or locked, no halt bug, no host input first, no DMA over the fetch, the boot ROM
unmapped, a NoMBC cartridge). -/
def State.withFetchWord (s : State) (nbits w : Nat) : State :=
  let place := s.fetchPlace
  let t := s.pokeBytes place.toNat ((tableBytes nbits w ++ [0x00#8, 0x00#8]).take 3)
  { t with
    cpu := { t.cpu with
      pc := place, halted := false, stopped := false, haltBug := false, locked := false }
    dma := { t.dma with active := false, start := false }
    cart := .noMbc true
    bootMapped := false
    hostInputs := [] }

end Sys2Proof.Machine
end

