-- ==== Sys2Proof/Safety.lean ====
section
/-! DEFINITION. The terms the claims are stated in: what an instruction leaves alone (frames), and the
invariant every step keeps. -/

namespace Sys2Proof

/-! Encodings and lengths. -/

/-- The instruction is encoded by these bytes, and they decode to it whatever follows. -/
def Encoded (i : Instr) (bytes : List Byte) : Prop :=
  encode i = bytes ∧ ∀ rest, decode (bytes ++ rest) = .ok i rest

/-- The bytes an instruction's fetch reads, one M-cycle each: all of them but STOP's second (rules R300,
R603), and the prefix byte alone for the bare prefix. -/
def Instr.fetches (i : Instr) : Nat :=
  match i with
  | .stop => 1
  | _ => (encode i).length

/-- `reg8[i]`'s number (rule R310). -/
def Reg8.code (r : Reg8) : Nat :=
  match r with
  | .b => 0
  | .c => 1
  | .d => 2
  | .e => 3
  | .h => 4
  | .l => 5
  | .a => 7

/-- `reg16[p]`'s number (rule R311). -/
def Pair.code (p : Pair) : Nat :=
  match p with
  | .bc => 0
  | .de => 1
  | .hl => 2
  | .sp => 3

/-- `reg16stk[p]`'s number (rule R312). -/
def StackPair.code (p : StackPair) : Nat :=
  match p with
  | .bc => 0
  | .de => 1
  | .hl => 2
  | .af => 3

/-- A condition's number (rule R313). -/
def Cond.code (cc : Cond) : Nat :=
  match cc with
  | .nz => 0
  | .z => 1
  | .nc => 2
  | .c => 3

/-- `alu[y]`'s number (rule R314). -/
def Alu.code (o : Alu) : Nat :=
  match o with
  | .add => 0
  | .adc => 1
  | .sub => 2
  | .sbc => 3
  | .and => 4
  | .xor => 5
  | .or => 6
  | .cp => 7

/-- `rot[y]`'s number (rule R315). -/
def Rot.code (o : Rot) : Nat :=
  match o with
  | .rlc => 0
  | .rrc => 1
  | .rl => 2
  | .rr => 3
  | .sla => 4
  | .sra => 5
  | .swap => 6
  | .srl => 7

/-- An opcode byte from a number. -/
def opByte (n : Nat) : Byte := BitVec.ofNat 8 n

end Sys2Proof

namespace Sys2Proof.Machine

/-! Frames. -/

/-- What only a CPU write, a reset or the host changes: the registers a program sets up and the units
only read. -/
structure Settings where
  ie : BitVec 5
  tma : Byte
  tac : BitVec 3
  lcdc : Byte
  statSel : BitVec 4
  scy : Byte
  scx : Byte
  lyc : Byte
  bgp : Byte
  obp0 : Byte
  obp1 : Byte
  wy : Byte
  wx : Byte
  dmaReg : Byte
  select : BitVec 2
  keys : Byte
  internalClock : Bool
  serialIn : Byte
  serialOut : List Byte
  /-- Whether a NoMBC cartridge has RAM; none for another device. -/
  cartRam : Option Bool
  bootMapped : Bool
  fastBoot : Bool
  params : Params
  hostInputs : List HostInput
  deriving DecidableEq, Repr

/-- The settings a state holds. -/
def State.settings (s : State) : Settings where
  ie := s.irq.ie
  tma := s.timer.tma
  tac := s.timer.tac
  lcdc := s.ppu.lcdc
  statSel := s.ppu.statSel
  scy := s.ppu.scy
  scx := s.ppu.scx
  lyc := s.ppu.lyc
  bgp := s.ppu.bgp
  obp0 := s.ppu.obp0
  obp1 := s.ppu.obp1
  wy := s.ppu.wy
  wx := s.ppu.wx
  dmaReg := s.dma.reg
  select := s.joypad.select
  keys := s.joypad.input
  internalClock := s.serial.internal
  serialIn := s.serial.input
  serialOut := s.serial.out
  cartRam :=
    match s.cart with
    | .noMbc ram => some ram
    | .device _ => none
  bootMapped := s.bootMapped
  fastBoot := s.fastBoot
  params := s.params
  hostInputs := s.hostInputs

/-- No OAM DMA runs and none has been asked for (rule R125). -/
def State.quiet (s : State) : Bool := !s.dma.active && !s.dma.start

/-- The byte stored at a key of memory, as no unit's blocking hides it. -/
def State.byteAt (k : Nat) (s : State) : Byte := Cells.read s.mem k

/-- What the units leave alone while M-cycles pass with no CPU write: the settings, every request
already made in IF, and every stored byte, but for OAM while a DMA runs. -/
structure Frame (s t : State) : Prop where
  settings : t.settings = s.settings
  requests : s.irq.ifr &&& t.irq.ifr = s.irq.ifr
  bytes : ∀ k, inOam k = false ∨ s.quiet = true → t.byteAt k = s.byteAt k
  quiet : s.quiet = true → t.quiet = true

/-- The CPU state outside the eight 8-bit registers, SP and PC: IME, IME_PENDING, HALTED, STOPPED,
HALT_BUG, LOCKED and the two latches of rule R730. -/
structure Cpu.SameControl (c d : Cpu) : Prop where
  ime : d.ime = c.ime
  imePending : d.imePending = c.imePending
  halted : d.halted = c.halted
  stopped : d.stopped = c.stopped
  haltBug : d.haltBug = c.haltBug
  locked : d.locked = c.locked
  opcodeAddr : d.opcodeAddr = c.opcodeAddr
  illegalByte : d.illegalByte = c.illegalByte

/-- Every 8-bit register but those listed is kept. -/
def Cpu.KeptBut (dst : List Reg8) (c d : Cpu) : Prop := ∀ r, r ∉ dst → d.get r = c.get r

/-- The four flags, and bits 3..0 of F zero (rules R105, R106). -/
structure Cpu.Flags (z n h cy : Bool) (c : Cpu) : Prop where
  z : c.z = z
  n : c.n = n
  h : c.hf = h
  cy : c.cy = cy
  low : c.f &&& 0x0F#8 = 0x00#8

/-- Everything outside the CPU is as in `u`. -/
def State.SameUnits (u t : State) : Prop := { t with cpu := u.cpu } = u

/-- The CPU outside the 8-bit registers listed and F: the other registers, SP, PC and the control bits. -/
structure Cpu.Rest (dst : List Reg8) (c d : Cpu) : Prop where
  regs : Cpu.KeptBut dst c d
  sp : d.sp = c.sp
  pc : d.pc = c.pc
  control : Cpu.SameControl c d

/-- What one CPU write of `v` at `a`, in the M-cycle that starts at `s`, does to memory: the byte at the
key the bus decode gives `a` is `v`, every other byte is kept, and where memory takes the write no
setting changes. A byte of OAM is left out while a DMA writes OAM. -/
structure Stores (a : Word) (v : Byte) (s t : State) : Prop where
  written : ∀ k, s.storeKey a = some k → inOam k = false ∨ s.quiet = true → t.byteAt k = v
  kept : ∀ k, s.storeKey a ≠ some k → inOam k = false ∨ s.quiet = true → t.byteAt k = s.byteAt k
  settings : s.storeKey a ≠ none → t.settings = s.settings

/-- What two CPU writes in two M-cycles do to memory, `x` at `a` first, then `y` at `b`: the second
write's key is taken in the state the first leaves. -/
structure StoresTwo (a : Word) (x : Byte) (b : Word) (y : Byte) (s t : State) : Prop where
  second : ∀ k, (s.memWrite a x).storeKey b = some k →
    inOam k = false ∨ (s.quiet = true ∧ a ≠ 0xFF46#16) → t.byteAt k = y
  first : ∀ k, s.storeKey a = some k → (s.memWrite a x).storeKey b ≠ some k →
    inOam k = false ∨ (s.quiet = true ∧ a ≠ 0xFF46#16) → t.byteAt k = x
  kept : ∀ k, s.storeKey a ≠ some k → (s.memWrite a x).storeKey b ≠ some k →
    inOam k = false ∨ (s.quiet = true ∧ a ≠ 0xFF46#16) → t.byteAt k = s.byteAt k
  settings : s.storeKey a ≠ none → (s.memWrite a x).storeKey b ≠ none → t.settings = s.settings

/-- The instruction takes `n` T-cycles in all, with those of its fetch (rule R941): `s` is the state its
fetch leaves and `t` the one it ends in. -/
def Takes (n : Nat) (i : Instr) (s t : State) : Prop :=
  t.clock + 4 * i.fetches = s.clock + n

/-- One form of an 8-bit ALU instruction: its bytes, its operand, the state its operand read leaves,
and its T-cycles. -/
structure AluForm where
  instr : Instr
  bytes : List Byte
  operand : Byte
  after : State
  cycles : Nat

/-- The three forms of an ALU operation: a register, the byte at HL, an immediate (rules R461 to R484). -/
def aluForms (op : Alu) (r : Reg8) (n : Byte) (s : State) : List AluForm :=
  [⟨Instr.aluReg op r, [opByte (0x80 + 8 * op.code + r.code)], s.cpu.get r, s, 4⟩,
    ⟨Instr.aluAtHl op, [opByte (0x86 + 8 * op.code)], (s.memRead s.cpu.hl).1,
      (s.memRead s.cpu.hl).2, 8⟩,
    ⟨Instr.aluImm op n, [opByte (0xC6 + 8 * op.code), n], n, s, 8⟩]

/-- Bit `i` of the result of `rot[y]` (rules R526 to R541). -/
def rotatedBit (op : Rot) (v : Byte) (cy : Bool) (i : Nat) : Bool :=
  match op with
  | .rlc => v.getLsbD ((i + 7) % 8)
  | .rrc => v.getLsbD ((i + 1) % 8)
  | .rl => if i = 0 then cy else v.getLsbD (i - 1)
  | .rr => if i = 7 then cy else v.getLsbD (i + 1)
  | .sla => if i = 0 then false else v.getLsbD (i - 1)
  | .sra => if i = 7 then v.getLsbD 7 else v.getLsbD (i + 1)
  | .swap => v.getLsbD ((i + 4) % 8)
  | .srl => if i = 7 then false else v.getLsbD (i + 1)

/-- The bit `rot[y]` shifts out into Cy; SWAP clears Cy (rules R526 to R541). -/
def shiftedOut (op : Rot) (v : Byte) : Bool :=
  match op with
  | .rlc => v.getLsbD 7
  | .rrc => v.getLsbD 0
  | .rl => v.getLsbD 7
  | .rr => v.getLsbD 0
  | .sla => v.getLsbD 7
  | .sra => v.getLsbD 0
  | .swap => false
  | .srl => v.getLsbD 0

/-- Some M-cycles with no bus access. -/
def State.mCycles : Nat → State → State
  | 0, s => s
  | n + 1, s => State.mCycles n s.mCycle

/-! The invariant. -/

/-- A position of the PPU and a mode that go together (rule R801): mode 2 on dots 0 to 79 and mode 3 from
dot 80 of a visible line, mode 0 "entered no earlier than dot 252", mode 1 on lines 144 to 153. -/
def legalMode (line dot : Nat) (mode : Mode) : Prop :=
  match mode with
  | .oamScan => line < 144 ∧ dot < 80
  | .drawing => line < 144 ∧ 80 ≤ dot
  | .hblank => line < 144 ∧ 252 ≤ dot
  | .vblank => 144 ≤ line

/-- The parameter `FASTBOOT_PPU_POS` is a position of a PPU (D31). -/
structure Params.Valid (p : Params) : Prop where
  line : p.fastbootLine ≤ 153
  dot : p.fastbootDot ≤ 455
  mode : legalMode p.fastbootLine p.fastbootDot p.fastbootMode

/-- The dots the fetcher has spent since mode 3 began, before its first Push (rule R831). -/
def Ppu.progress (p : Ppu) : Nat :=
  match p.fst with
  | .dummy => p.fdot
  | .tileNumber => 6 + p.fdot
  | .tileDataLow => 8 + p.fdot
  | .tileDataHigh => 10 + p.fdot
  | .push => 12

/-- The dots a fetcher sub-state may have counted (rule R831). -/
def Ppu.fdotBound (p : Ppu) : Nat :=
  match p.fst with
  | .dummy => 5
  | .tileNumber => 1
  | .tileDataLow => 1
  | .tileDataHigh => 1
  | .push => 0

/-- Columns are output no faster than one a dot, the first no earlier than dot 92 (rules R831, R835,
R845). -/
def Ppu.Paced (p : Ppu) : Prop :=
  p.xOut + 91 ≤ p.dot ∨ (p.xOut = 0 ∧ p.bgq = [] ∧ p.progress + 79 ≤ p.dot)

/-- The address latched for the high bit-plane is a tile row's (rule R833). -/
def Ppu.LatchOk (p : Ppu) : Prop :=
  (p.fst = .tileDataLow ∧ p.fdot = 1) ∨ p.fst = .tileDataHigh →
    0x8000 ≤ p.taddr.toNat ∧ p.taddr.toNat < 0x97FF

/-- The PPU's part of the invariant. -/
structure Ppu.Inv (p : Ppu) : Prop where
  line : p.line ≤ 153
  dot : p.dot ≤ 455
  off : p.lcdOn = false → p.line = 0 ∧ p.dot = 0 ∧ p.mode = .hblank
  mode : p.lcdOn = true → legalMode p.line p.dot p.mode
  wline : p.lcdOn = true → p.wline ≤ p.line
  columns : p.xOut ≤ 160
  paced : p.mode = .drawing → p.Paced
  sprites : p.sprites.length ≤ 10
  indices : ∀ n ∈ p.sprites, n < 40
  cursor : p.scur < 40
  bgFifo : p.bgq.length ≤ 16
  spFifo : p.spq.length ≤ 16
  fdot : p.fdot ≤ p.fdotBound
  latch : p.LatchOk
  fbWf : Cells.wf p.fb = true
  fbKeys : Cells.keysIn (fun k => decide (k < 160 * 144)) p.fb = true

/-- Memory's part: the canonical form, and entries only where there is storage (rules R127, R201). -/
structure Memory.Inv (m : Memory) : Prop where
  wf : Memory.wf m = true
  keys : Cells.keysIn inStorage m = true

/-- The DMA unit's part (rules R230, R231): the counter stays in its range, a transfer that is running
has bytes left, a start is latched by the end of its M-cycle, and the source is a page. -/
structure Dma.Inv (d : Dma) : Prop where
  idx : d.idx ≤ 160
  running : d.active = true → d.idx < 160
  start : d.start = false
  page : d.src.lo = 0x00#8

/-- The serial port's part (rule R871): only a transfer under the internal clock counts down,
which rests on the model's choice for a write of SC that starts none (assumption log 8). -/
structure Serial.Inv (p : Serial) : Prop where
  countdown : p.countdown ≤ 4096
  running : p.countdown ≠ 0 → p.start = true ∧ p.internal = true

/-- The eleven illegal bytes (rule R327). -/
def illegalBytes : List Byte :=
  [0xD3#8, 0xDB#8, 0xDD#8, 0xE3#8, 0xE4#8, 0xEB#8, 0xEC#8, 0xED#8, 0xF4#8, 0xFC#8, 0xFD#8]

/-- The CPU's part: F[3:0] is hardwired to zero (rule R106), and a LOCKED CPU stands at its illegal
byte (rule R730). -/
structure Cpu.Inv (c : Cpu) : Prop where
  low : c.f &&& 0x0F#8 = 0x00#8
  locked : c.locked = true → c.pc = c.opcodeAddr ∧ c.illegalByte ∈ illegalBytes

/-- The invariant every step keeps. -/
structure State.Inv (s : State) : Prop where
  cpu : s.cpu.Inv
  mem : Memory.Inv s.mem
  ppu : s.ppu.Inv
  dma : s.dma.Inv
  serial : s.serial.Inv
  reload : s.timer.reload ≤ 4
  params : Params.Valid s.params

end Sys2Proof.Machine
end

