-- ==== Sys2Proof/Certificates/Slice0/Obligations.lean ====
section
/-! DEFINITION. The statements for the provers, one per group of rules of the spec. -/

open Sys2Proof Sys2Proof.Machine

/-! The 8-bit loads. -/

/-- `LD r,r'` (rule R401), all 49 rows, and `LD r,n` (rule R402), all 7: the register takes the other register or
the immediate; no flag and nothing else changes. -/
def Obligations.LoadRegister : Prop :=
  (∀ (dst src : Reg8) (s : State),
     Encoded (Instr.ldReg dst src) [opByte (0x40 + 8 * dst.code + src.code)] ∧
     ∃ t, exec (Instr.ldReg dst src) s = .next t ∧ Takes 4 (Instr.ldReg dst src) s t ∧
       t.cpu.get dst = s.cpu.get src ∧ Cpu.Rest [dst] s.cpu t.cpu ∧ t.cpu.f = s.cpu.f ∧
       State.SameUnits s t) ∧
  (∀ (dst : Reg8) (n : Byte) (s : State),
     Encoded (Instr.ldRegImm dst n) [opByte (0x06 + 8 * dst.code), n] ∧
     ∃ t, exec (Instr.ldRegImm dst n) s = .next t ∧ Takes 8 (Instr.ldRegImm dst n) s t ∧
       t.cpu.get dst = n ∧ Cpu.Rest [dst] s.cpu t.cpu ∧ t.cpu.f = s.cpu.f ∧ State.SameUnits s t)

/-- What a load of an 8-bit register from the byte at `a` does: the register takes the byte the bus gives at
the start of the M-cycle, no flag changes, nothing is stored. -/
def LoadsByte (i : Instr) (bytes : List Byte) (dst : Reg8) (a : Word) (cycles : Nat) (s : State) :
    Prop :=
  Encoded i bytes ∧
  ∃ t, exec i s = .next t ∧ Takes cycles i s t ∧
    t.cpu.get dst = (s.busRead a).1 ∧ Cpu.Rest [dst] s.cpu t.cpu ∧ t.cpu.f = s.cpu.f ∧
    State.SameUnits (s.busRead a).2.mCycle t ∧ Frame s t

/-- The loads from memory (rules R403, R406, R407, R410, R412, R414): `LD r,(HL)` for every register,
`LD A,(BC)`, `LD A,(DE)`, `LD A,(nn)`, `LDH A,(C)` and `LDH A,(n)`: the register takes the byte the bus gives; no other
register and no flag changes, nothing is stored, and the form takes its T-cycles. -/
def Obligations.LoadRegisterFromMemory : Prop :=
  ∀ (dst : Reg8) (n : Byte) (nn : Word) (s : State),
    LoadsByte (Instr.ldRegAtHl dst) [opByte (0x46 + 8 * dst.code)] dst s.cpu.hl 8 s ∧
    LoadsByte .ldAAtBc [0x0A#8] .a s.cpu.bc 8 s ∧
    LoadsByte .ldAAtDe [0x1A#8] .a s.cpu.de 8 s ∧
    LoadsByte (.ldAAtNn nn) [0xFA#8, nn.lo, nn.hi] .a nn 16 s ∧
    LoadsByte .ldhAAtC [0xF2#8] .a (0xFF00#16 + s.cpu.c.setWidth 16) 8 s ∧
    LoadsByte (.ldhAAtN n) [0xF0#8, n] .a (0xFF00#16 + n.setWidth 16) 12 s

/-- What a load of A from the byte at HL that then steps HL does. -/
def LoadsAndSteps (i : Instr) (bytes : List Byte) (d : Word) (s : State) : Prop :=
  Encoded i bytes ∧
  ∃ t, exec i s = .next t ∧ Takes 8 i s t ∧
    t.cpu.a = (s.busRead s.cpu.hl).1 ∧ t.cpu.hl = s.cpu.hl + d ∧
    Cpu.Rest [.a, .h, .l] s.cpu t.cpu ∧ t.cpu.f = s.cpu.f ∧
    State.SameUnits (s.busRead s.cpu.hl).2.mCycle t ∧ Frame s t

/-- What a store of `v` at `a` does: one bus write, the CPU as it was, and of memory only the byte the
bus decode gives `a` (`Stores`). -/
def StoresByte (i : Instr) (bytes : List Byte) (a : Word) (v : Byte) (cycles : Nat) (s : State) :
    Prop :=
  Encoded i bytes ∧
  ∃ t, exec i s = .next t ∧ Takes cycles i s t ∧ t.cpu = s.cpu ∧
    State.SameUnits (s.busWrite a v).mCycle t ∧ Stores a v s t

/-- The stores (rules R404, R405, R408, R409, R411, R413, R415): `LD (HL),r` for every register,
`LD (HL),n`, `LD (BC),A`, `LD (DE),A`, `LD (nn),A`, `LDH (C),A` and `LDH (n),A`: one bus write at the address, no register
and no flag changed, every byte but the one the bus decode gives the address kept, in the form's T-cycles. -/
def Obligations.StoreByte : Prop :=
  ∀ (src : Reg8) (n : Byte) (nn : Word) (s : State),
    StoresByte (Instr.ldAtHlReg src) [opByte (0x70 + src.code)] s.cpu.hl (s.cpu.get src) 8 s ∧
    StoresByte (.ldAtHlN n) [0x36#8, n] s.cpu.hl n 12 s ∧
    StoresByte .ldAtBcA [0x02#8] s.cpu.bc s.cpu.a 8 s ∧
    StoresByte .ldAtDeA [0x12#8] s.cpu.de s.cpu.a 8 s ∧
    StoresByte (.ldAtNnA nn) [0xEA#8, nn.lo, nn.hi] nn s.cpu.a 16 s ∧
    StoresByte .ldhAtCA [0xE2#8] (0xFF00#16 + s.cpu.c.setWidth 16) s.cpu.a 8 s ∧
    StoresByte (.ldhAtNA n) [0xE0#8, n] (0xFF00#16 + n.setWidth 16) s.cpu.a 12 s

/-- What a store of A at HL that then steps HL does. -/
def StoresAndSteps (i : Instr) (bytes : List Byte) (d : Word) (s : State) : Prop :=
  Encoded i bytes ∧
  ∃ t, exec i s = .next t ∧ Takes 8 i s t ∧
    t.cpu.hl = s.cpu.hl + d ∧ Cpu.Rest [.h, .l] s.cpu t.cpu ∧ t.cpu.f = s.cpu.f ∧
    State.SameUnits (s.busWrite s.cpu.hl s.cpu.a).mCycle t ∧ Stores s.cpu.hl s.cpu.a s t

/-- `LD A,(HL+)`, `LD A,(HL-)`, `LD (HL+),A` and `LD (HL-),A` (rules R416 to R419): the byte is read or written at
HL, and HL goes up or down by one modulo 2^16. -/
def Obligations.TransferAccumulatorAndStep : Prop :=
  (∀ s : State,
     LoadsAndSteps .ldAAtHli [0x2A#8] 1#16 s ∧ LoadsAndSteps .ldAAtHld [0x3A#8] 0xFFFF#16 s) ∧
  (∀ s : State,
     StoresAndSteps .ldAtHliA [0x22#8] 1#16 s ∧ StoresAndSteps .ldAtHldA [0x32#8] 0xFFFF#16 s)

/-! The 16-bit loads and the stack. -/

/-- `LD rr,nn` (rule R431): the pair takes nn; and `LD SP,HL` (rule R433): SP takes HL, after an idle M-cycle. The
other pairs, A, F and everything else are kept. -/
def Obligations.LoadPair : Prop :=
  (∀ (p : Pair) (nn : Word) (s : State),
     Encoded (Instr.ldPair p nn) [opByte (0x01 + 16 * p.code), nn.lo, nn.hi] ∧
     ∃ t, exec (Instr.ldPair p nn) s = .next t ∧ Takes 12 (Instr.ldPair p nn) s t ∧
       t.cpu.getPair p = nn ∧ (∀ q, q ≠ p → t.cpu.getPair q = s.cpu.getPair q) ∧
       t.cpu.a = s.cpu.a ∧ t.cpu.f = s.cpu.f ∧ t.cpu.pc = s.cpu.pc ∧
       Cpu.SameControl s.cpu t.cpu ∧ State.SameUnits s t) ∧
  (∀ s : State,
     Encoded .ldSpHl [0xF9#8] ∧
     ∃ t, exec .ldSpHl s = .next t ∧ Takes 8 .ldSpHl s t ∧ t.cpu.sp = s.cpu.hl ∧
       Cpu.KeptBut [] s.cpu t.cpu ∧ t.cpu.f = s.cpu.f ∧ t.cpu.pc = s.cpu.pc ∧
       Cpu.SameControl s.cpu t.cpu ∧ State.SameUnits s.mCycle t ∧ Frame s t)

/-- `LD (nn),SP` (rule R432): SP's low byte at nn, then its high byte at nn + 1 modulo 2^16, each in an
M-cycle of its own; the CPU is as it was. -/
def Obligations.StoreStackPointer : Prop :=
  ∀ (nn : Word) (s : State),
    Encoded (.ldAtNnSp nn) [0x08#8, nn.lo, nn.hi] ∧
    ∃ t, exec (.ldAtNnSp nn) s = .next t ∧ Takes 20 (.ldAtNnSp nn) s t ∧ t.cpu = s.cpu ∧
      State.SameUnits ((s.memWrite nn s.cpu.sp.lo).memWrite (nn + 1#16) s.cpu.sp.hi) t ∧
      StoresTwo nn s.cpu.sp.lo (nn + 1#16) s.cpu.sp.hi s t

/-- `LD HL,SP+e` (rule R437) and `ADD SP,e` (rule R504): the sum of SP and the signed displacement modulo
2^16, Z = N = 0, and Hf and Cy from the unsigned addition of SP's low byte and the raw byte. -/
def Obligations.StackPointerPlusDisplacement : Prop :=
  ∀ (e : Byte) (s : State),
    (Encoded (.ldHlSpOff e) [0xF8#8, e] ∧
      ∃ t, exec (.ldHlSpOff e) s = .next t ∧ Takes 12 (.ldHlSpOff e) s t ∧
        t.cpu.hl = BitVec.ofInt 16 (s.cpu.sp.toNat + e.toInt) ∧
        Cpu.Rest [.h, .l] s.cpu t.cpu ∧
        Cpu.Flags false false (decide (15 < s.cpu.sp.toNat % 16 + e.toNat % 16))
          (decide (255 < s.cpu.sp.toNat % 256 + e.toNat)) t.cpu ∧
        State.SameUnits s.mCycle t ∧ Frame s t) ∧
    (Encoded (.addSpOff e) [0xE8#8, e] ∧
      ∃ t, exec (.addSpOff e) s = .next t ∧ Takes 16 (.addSpOff e) s t ∧
        t.cpu.sp = BitVec.ofInt 16 (s.cpu.sp.toNat + e.toInt) ∧
        Cpu.KeptBut [] s.cpu t.cpu ∧ t.cpu.pc = s.cpu.pc ∧ Cpu.SameControl s.cpu t.cpu ∧
        Cpu.Flags false false (decide (15 < s.cpu.sp.toNat % 16 + e.toNat % 16))
          (decide (255 < s.cpu.sp.toNat % 256 + e.toNat)) t.cpu ∧
        State.SameUnits s.mCycle.mCycle t ∧ Frame s t)

/-- `PUSH qq` (rule R434): after an idle M-cycle the pair's high byte is written at SP - 1 and its low byte
at SP - 2, F being pushed with bits 3..0 zero (rule R106); SP goes down by 2 and nothing else of the CPU
changes. -/
def Obligations.PushPair : Prop :=
  ∀ (r : StackPair) (s : State),
    Encoded (Instr.push r) [opByte (0xC5 + 16 * r.code)] ∧
    (s.cpu.getStack .af).hi = s.cpu.a ∧ (s.cpu.getStack .af).lo = s.cpu.f &&& 0xF0#8 ∧
    ∃ t, exec (Instr.push r) s = .next t ∧ Takes 16 (Instr.push r) s t ∧
      t.cpu = { s.cpu with sp := s.cpu.sp - 2#16 } ∧
      State.SameUnits ((s.mCycle.memWrite (s.cpu.sp - 1#16) (s.cpu.getStack r).hi).memWrite
        (s.cpu.sp - 2#16) (s.cpu.getStack r).lo) t ∧
      StoresTwo (s.cpu.sp - 1#16) (s.cpu.getStack r).hi (s.cpu.sp - 2#16) (s.cpu.getStack r).lo
        s.mCycle t

/-- `POP qq` and `POP AF` (rules R435, R436): the low byte is read at SP and the high byte at SP + 1, SP goes
up by 2; F takes the low byte with bits 3..0 zero. -/
def Obligations.PopPair : Prop :=
  ∀ (r : StackPair) (s : State),
    Encoded (Instr.pop r) [opByte (0xC1 + 16 * r.code)] ∧
    ∃ t, exec (Instr.pop r) s = .next t ∧ Takes 12 (Instr.pop r) s t ∧
      (t.cpu.getStack r).hi = ((s.memRead s.cpu.sp).2.memRead (s.cpu.sp + 1#16)).1 ∧
      (r ≠ .af → (t.cpu.getStack r).lo = (s.memRead s.cpu.sp).1) ∧
      (r = .af → t.cpu.f = (s.memRead s.cpu.sp).1 &&& 0xF0#8) ∧
      (r ≠ .af → t.cpu.a = s.cpu.a ∧ t.cpu.f = s.cpu.f) ∧
      (∀ q, q ≠ r → t.cpu.getStack q = s.cpu.getStack q) ∧
      t.cpu.sp = s.cpu.sp + 2#16 ∧ t.cpu.pc = s.cpu.pc ∧ Cpu.SameControl s.cpu t.cpu ∧
      State.SameUnits ((s.memRead s.cpu.sp).2.memRead (s.cpu.sp + 1#16)).2 t ∧ Frame s t

/-! 8-bit arithmetic and logic. -/

/-- `ADD` and `ADC` of a register, the byte at HL and an immediate (rules R461 to R466): A takes A + v + c
modulo 2^8, Z says it is 0, N = 0, Hf and Cy are the carries out of bits 3 and 7; c is the old Cy for ADC and
0 for ADD. Nothing else of the CPU changes, and nothing is stored. -/
def Obligations.AddBytes : Prop :=
  ∀ (op : Alu) (r : Reg8) (n : Byte) (s : State), op = .add ∨ op = .adc →
    ∀ x ∈ aluForms op r n s,
      let v := x.operand.toNat
      let c := if op = .adc then s.cpu.cy.toNat else 0
      Encoded x.instr x.bytes ∧
      ∃ t, exec x.instr s = .next t ∧ Takes x.cycles x.instr s t ∧
        t.cpu.a.toNat = (s.cpu.a.toNat + v + c) % 256 ∧
        Cpu.Flags (decide ((s.cpu.a.toNat + v + c) % 256 = 0)) false
          (decide (15 < s.cpu.a.toNat % 16 + v % 16 + c)) (decide (255 < s.cpu.a.toNat + v + c))
          t.cpu ∧
        Cpu.Rest [.a] s.cpu t.cpu ∧ State.SameUnits x.after t ∧ Frame s t

/-- `SUB`, `SBC` and `CP` of a register, the byte at HL and an immediate (rules R467 to R472, R482 to R484):
the difference A - v - c modulo 2^8, which CP does not write to A; N = 1, Hf and Cy are the borrows; c is the
old Cy for SBC and 0 for the others. -/
def Obligations.SubtractAndCompareBytes : Prop :=
  ∀ (op : Alu) (r : Reg8) (n : Byte) (s : State), op = .sub ∨ op = .sbc ∨ op = .cp →
    ∀ x ∈ aluForms op r n s,
      let v := x.operand.toNat
      let c := if op = .sbc then s.cpu.cy.toNat else 0
      Encoded x.instr x.bytes ∧
      ∃ t, exec x.instr s = .next t ∧ Takes x.cycles x.instr s t ∧
        t.cpu.a.toNat =
          (if op = .cp then s.cpu.a.toNat else (s.cpu.a.toNat + 512 - v - c) % 256) ∧
        Cpu.Flags (decide ((s.cpu.a.toNat + 512 - v - c) % 256 = 0)) true
          (decide (s.cpu.a.toNat % 16 < v % 16 + c)) (decide (s.cpu.a.toNat < v + c)) t.cpu ∧
        Cpu.Rest [.a] s.cpu t.cpu ∧ State.SameUnits x.after t ∧ Frame s t

/-- `AND`, `XOR` and `OR` of a register, the byte at HL and an immediate (rules R473 to R481): bit by bit; Z
says the result is 0, N = 0, Hf = 1 for AND and 0 otherwise, Cy = 0. -/
def Obligations.LogicBytes : Prop :=
  ∀ (op : Alu) (r : Reg8) (n : Byte) (s : State), op = .and ∨ op = .xor ∨ op = .or →
    ∀ x ∈ aluForms op r n s,
      Encoded x.instr x.bytes ∧
      ∃ t, exec x.instr s = .next t ∧ Takes x.cycles x.instr s t ∧
        (∀ i, i < 8 → t.cpu.a.getLsbD i =
          (if op = .and then s.cpu.a.getLsbD i && x.operand.getLsbD i
            else if op = .or then s.cpu.a.getLsbD i || x.operand.getLsbD i
            else (s.cpu.a.getLsbD i).xor (x.operand.getLsbD i))) ∧
        Cpu.Flags (decide (t.cpu.a.toNat = 0)) false (decide (op = .and)) false t.cpu ∧
        Cpu.Rest [.a] s.cpu t.cpu ∧ State.SameUnits x.after t ∧ Frame s t

/-- What an instruction that reads the byte at HL, computes on it and writes the result back does outside the
CPU: one bus read and then, in the next M-cycle, one bus write of `w` at the same address (rule R252). -/
structure Modifies (w : Byte) (s t : State) : Prop where
  units : State.SameUnits ((s.memRead s.cpu.hl).2.memWrite s.cpu.hl w) t
  stores : Stores s.cpu.hl w (s.memRead s.cpu.hl).2 t
  read : Frame s (s.memRead s.cpu.hl).2

/-- `INC r`, `DEC r`, `INC (HL)` and `DEC (HL)` (rules R485 to R488): the byte goes up or down by one modulo 2^8; Z says
the result is 0, N tells the two apart, Hf is the carry out of bit 3 or the borrow into it, and Cy is kept. The
byte at HL is read in one M-cycle and written back in the next. -/
def Obligations.StepByte : Prop :=
  (∀ (r : Reg8) (s : State),
     (Encoded (Instr.incReg r) [opByte (0x04 + 8 * r.code)] ∧
       ∃ t, exec (Instr.incReg r) s = .next t ∧ Takes 4 (Instr.incReg r) s t ∧
         (t.cpu.get r).toNat = ((s.cpu.get r).toNat + 1) % 256 ∧
         Cpu.Flags (decide ((s.cpu.get r).toNat = 255)) false
           (decide ((s.cpu.get r).toNat % 16 = 15)) s.cpu.cy t.cpu ∧
         Cpu.Rest [r] s.cpu t.cpu ∧ State.SameUnits s t) ∧
     (Encoded (Instr.decReg r) [opByte (0x05 + 8 * r.code)] ∧
       ∃ t, exec (Instr.decReg r) s = .next t ∧ Takes 4 (Instr.decReg r) s t ∧
         (t.cpu.get r).toNat = ((s.cpu.get r).toNat + 255) % 256 ∧
         Cpu.Flags (decide ((s.cpu.get r).toNat = 1)) true
           (decide ((s.cpu.get r).toNat % 16 = 0)) s.cpu.cy t.cpu ∧
         Cpu.Rest [r] s.cpu t.cpu ∧ State.SameUnits s t)) ∧
  (∀ s : State,
     let v := (s.memRead s.cpu.hl).1.toNat
     (Encoded .incAtHl [0x34#8] ∧
       ∃ t, exec .incAtHl s = .next t ∧ Takes 12 .incAtHl s t ∧
         Modifies (BitVec.ofNat 8 (v + 1)) s t ∧
         Cpu.Flags (decide (v = 255)) false (decide (v % 16 = 15)) s.cpu.cy t.cpu ∧
         Cpu.Rest [] s.cpu t.cpu) ∧
     (Encoded .decAtHl [0x35#8] ∧
       ∃ t, exec .decAtHl s = .next t ∧ Takes 12 .decAtHl s t ∧
         Modifies (BitVec.ofNat 8 (v + 255)) s t ∧
         Cpu.Flags (decide (v = 1)) true (decide (v % 16 = 0)) s.cpu.cy t.cpu ∧
         Cpu.Rest [] s.cpu t.cpu))

/-- `DAA` (rule R489), over every A, N, Hf and Cy: after an addition 0x60 is added when Cy = 1 or A > 0x99 and
0x06 when Hf = 1 or A's low digit is above 9; after a subtraction 0x60 is taken off when Cy = 1 and 0x06 when
Hf = 1; Hf = 0, N is kept, Z says the result is 0, and Cy is set by the high adjustment only. -/
def Obligations.DecimalAdjust : Prop :=
  ∀ s : State,
    let a := s.cpu.a.toNat
    let high := s.cpu.cy || (!s.cpu.n && decide (0x99 < a))
    let low := s.cpu.hf || (!s.cpu.n && decide (9 < a % 16))
    let d := (if high then 0x60 else 0) + (if low then 0x06 else 0)
    let r := if s.cpu.n then (a + 256 - d) % 256 else (a + d) % 256
    Encoded .daa [0x27#8] ∧
    ∃ t, exec .daa s = .next t ∧ Takes 4 .daa s t ∧ t.cpu.a.toNat = r ∧
      Cpu.Flags (decide (r = 0)) s.cpu.n false high t.cpu ∧
      Cpu.Rest [.a] s.cpu t.cpu ∧ State.SameUnits s t

/-- The two-digit decimal number a BCD byte stands for. -/
def bcd (x : Nat) : Byte := BitVec.ofNat 8 (16 * (x / 10) + x % 10)

/-- What DAA is for (rules R461, R489): after `ADD A,r` of two two-digit decimal numbers, DAA leaves the last
two digits of their sum, with Cy the hundred. -/
def Obligations.DecimalAddition : Prop :=
  ∀ (x y : Nat) (r : Reg8) (s : State), x < 100 → y < 100 → r ≠ .a →
    s.cpu.a = bcd x → s.cpu.get r = bcd y →
    ∃ t u, exec (Instr.aluReg .add r) s = .next t ∧ exec .daa t = .next u ∧
      u.cpu.a = bcd ((x + y) % 100) ∧ u.cpu.cy = decide (100 ≤ x + y)

/-- `CPL`, `SCF` and `CCF` (rules R490 to R492): CPL complements A and sets N and Hf; SCF sets Cy and CCF
complements it, both clearing N and Hf; Z is kept. -/
def Obligations.AccumulatorAndCarryOps : Prop :=
  ∀ s : State,
    (Encoded .cpl [0x2F#8] ∧
      ∃ t, exec .cpl s = .next t ∧ Takes 4 .cpl s t ∧
        t.cpu.a.toNat = 255 - s.cpu.a.toNat ∧ Cpu.Flags s.cpu.z true true s.cpu.cy t.cpu ∧
        Cpu.Rest [.a] s.cpu t.cpu ∧ State.SameUnits s t) ∧
    (Encoded .scf [0x37#8] ∧
      ∃ t, exec .scf s = .next t ∧ Takes 4 .scf s t ∧
        Cpu.Flags s.cpu.z false false true t.cpu ∧ Cpu.Rest [] s.cpu t.cpu ∧
        State.SameUnits s t) ∧
    (Encoded .ccf [0x3F#8] ∧
      ∃ t, exec .ccf s = .next t ∧ Takes 4 .ccf s t ∧
        Cpu.Flags s.cpu.z false false (!s.cpu.cy) t.cpu ∧ Cpu.Rest [] s.cpu t.cpu ∧
        State.SameUnits s t)

/-! 16-bit arithmetic. -/

/-- `ADD HL,rr` (rule R501): the sum modulo 2^16, Z kept, N = 0, Hf and Cy the carries out of bits 11 and 15; and
`INC rr` and `DEC rr` (rules R502, R503): up or down by one modulo 2^16, no flag changed. -/
def Obligations.PairArithmetic : Prop :=
  (∀ (p : Pair) (s : State),
     let v := (s.cpu.getPair p).toNat
     Encoded (Instr.addHlPair p) [opByte (0x09 + 16 * p.code)] ∧
     ∃ t, exec (Instr.addHlPair p) s = .next t ∧ Takes 8 (Instr.addHlPair p) s t ∧
       t.cpu.hl.toNat = (s.cpu.hl.toNat + v) % 65536 ∧
       Cpu.Flags s.cpu.z false (decide (0xFFF < s.cpu.hl.toNat % 4096 + v % 4096))
         (decide (0xFFFF < s.cpu.hl.toNat + v)) t.cpu ∧
       Cpu.Rest [.h, .l] s.cpu t.cpu ∧ State.SameUnits s.mCycle t ∧ Frame s t) ∧
  (∀ (p : Pair) (s : State),
     (Encoded (Instr.incPair p) [opByte (0x03 + 16 * p.code)] ∧
       ∃ t, exec (Instr.incPair p) s = .next t ∧ Takes 8 (Instr.incPair p) s t ∧
         (t.cpu.getPair p).toNat = ((s.cpu.getPair p).toNat + 1) % 65536 ∧
         (∀ q, q ≠ p → t.cpu.getPair q = s.cpu.getPair q) ∧ t.cpu.a = s.cpu.a ∧
         t.cpu.f = s.cpu.f ∧ t.cpu.pc = s.cpu.pc ∧ Cpu.SameControl s.cpu t.cpu ∧
         State.SameUnits s.mCycle t ∧ Frame s t) ∧
     (Encoded (Instr.decPair p) [opByte (0x0B + 16 * p.code)] ∧
       ∃ t, exec (Instr.decPair p) s = .next t ∧ Takes 8 (Instr.decPair p) s t ∧
         (t.cpu.getPair p).toNat = ((s.cpu.getPair p).toNat + 65535) % 65536 ∧
         (∀ q, q ≠ p → t.cpu.getPair q = s.cpu.getPair q) ∧ t.cpu.a = s.cpu.a ∧
         t.cpu.f = s.cpu.f ∧ t.cpu.pc = s.cpu.pc ∧ Cpu.SameControl s.cpu t.cpu ∧
         State.SameUnits s.mCycle t ∧ Frame s t))

/-! Rotates, shifts and bits. -/

/-- `RLCA`, `RRCA`, `RLA` and `RRA` (rules R521 to R524): A rotated, Cy the bit shifted out, Z, N and Hf cleared; and
the CB rotates and shifts of a register, RLC, RRC, RL, RR, SLA, SRA, SWAP and SRL (rules R526, R528, R530,
R532, R534, R536, R538, R540): bit by bit, Z computed, N = Hf = 0, Cy the bit shifted out. -/
def Obligations.RotateRegisters : Prop :=
  (∀ s : State,
     ∀ x ∈ [(Instr.rlca, 0x07#8, Rot.rlc), (.rrca, 0x0F#8, .rrc), (.rla, 0x17#8, .rl),
         (.rra, 0x1F#8, .rr)],
       Encoded x.1 [x.2.1] ∧
       ∃ t, exec x.1 s = .next t ∧ Takes 4 x.1 s t ∧
         (∀ i, i < 8 → t.cpu.a.getLsbD i = rotatedBit x.2.2 s.cpu.a s.cpu.cy i) ∧
         Cpu.Flags false false false (shiftedOut x.2.2 s.cpu.a) t.cpu ∧
         Cpu.Rest [.a] s.cpu t.cpu ∧ State.SameUnits s t) ∧
  (∀ (op : Rot) (r : Reg8) (s : State),
     Encoded (Instr.rotReg op r) [0xCB#8, opByte (8 * op.code + r.code)] ∧
     ∃ t, exec (Instr.rotReg op r) s = .next t ∧ Takes 8 (Instr.rotReg op r) s t ∧
       (∀ i, i < 8 → (t.cpu.get r).getLsbD i = rotatedBit op (s.cpu.get r) s.cpu.cy i) ∧
       Cpu.Flags (decide ((t.cpu.get r).toNat = 0)) false false (shiftedOut op (s.cpu.get r)) t.cpu ∧
       Cpu.Rest [r] s.cpu t.cpu ∧ State.SameUnits s t)

/-- The CB rotates and shifts of the byte at HL, RLC, RRC, RL, RR, SLA, SRA, SWAP and SRL (rules R527, R529, R531,
R533, R535, R537, R539, R541): the byte is read and the result, bit by bit, written back in the next M-cycle; Z says it
is 0, N = Hf = 0, Cy the bit shifted out; no register changes. -/
def Obligations.RotateMemory : Prop :=
  ∀ (op : Rot) (s : State),
    Encoded (Instr.rotAtHl op) [0xCB#8, opByte (0x06 + 8 * op.code)] ∧
    ∃ t w, exec (Instr.rotAtHl op) s = .next t ∧ Takes 16 (Instr.rotAtHl op) s t ∧
      (∀ i, i < 8 →
        BitVec.getLsbD (w : Byte) i = rotatedBit op (s.memRead s.cpu.hl).1 s.cpu.cy i) ∧
      Modifies w s t ∧
      Cpu.Flags (decide (w.toNat = 0)) false false (shiftedOut op (s.memRead s.cpu.hl).1) t.cpu ∧
      Cpu.Rest [] s.cpu t.cpu

/-- `BIT b,r` and `BIT b,(HL)` (rules R542, R543): Z is the complement of the bit, N = 0, Hf = 1, Cy is kept; the
operand is only read. -/
def Obligations.TestBit : Prop :=
  ∀ (b : Fin 8) (r : Reg8) (s : State),
    (Encoded (Instr.bitReg b r) [0xCB#8, opByte (0x40 + 8 * b.val + r.code)] ∧
      ∃ t, exec (Instr.bitReg b r) s = .next t ∧ Takes 8 (Instr.bitReg b r) s t ∧
        Cpu.Flags (!(s.cpu.get r).getLsbD b.val) false true s.cpu.cy t.cpu ∧
        Cpu.Rest [] s.cpu t.cpu ∧ State.SameUnits s t) ∧
    (Encoded (Instr.bitAtHl b) [0xCB#8, opByte (0x46 + 8 * b.val)] ∧
      ∃ t, exec (Instr.bitAtHl b) s = .next t ∧ Takes 12 (Instr.bitAtHl b) s t ∧
        Cpu.Flags (!(s.memRead s.cpu.hl).1.getLsbD b.val) false true s.cpu.cy t.cpu ∧
        Cpu.Rest [] s.cpu t.cpu ∧ State.SameUnits (s.memRead s.cpu.hl).2 t ∧ Frame s t)

/-- `RES b,r`, `SET b,r`, `RES b,(HL)` and `SET b,(HL)` (rules R544 to R547): the bit is cleared or set; the other bits, F
and everything else are kept; the byte at HL is read and written back. -/
def Obligations.WriteBit : Prop :=
  (∀ (b : Fin 8) (r : Reg8) (s : State),
     ∀ x ∈ [(Instr.resReg b r, 0x80, false), (Instr.setReg b r, 0xC0, true)],
       Encoded x.1 [0xCB#8, opByte (x.2.1 + 8 * b.val + r.code)] ∧
       ∃ t, exec x.1 s = .next t ∧ Takes 8 x.1 s t ∧
         (∀ i, i < 8 → (t.cpu.get r).getLsbD i =
           if i = b.val then x.2.2 else (s.cpu.get r).getLsbD i) ∧
         Cpu.Rest [r] s.cpu t.cpu ∧ t.cpu.f = s.cpu.f ∧ State.SameUnits s t) ∧
  (∀ (b : Fin 8) (s : State),
     ∀ x ∈ [(Instr.resAtHl b, 0x86, false), (Instr.setAtHl b, 0xC6, true)],
       Encoded x.1 [0xCB#8, opByte (x.2.1 + 8 * b.val)] ∧
       ∃ t w, exec x.1 s = .next t ∧ Takes 16 x.1 s t ∧
         (∀ i, i < 8 → BitVec.getLsbD (w : Byte) i =
           if i = b.val then x.2.2 else (s.memRead s.cpu.hl).1.getLsbD i) ∧
         Modifies w s t ∧ t.cpu = s.cpu)

/-- The prefix 0xCB (rule R525): it fetches a second byte, with PC advanced by one, and runs the row of the CB
table that byte selects; the rows are those of the statements above. -/
def Obligations.PrefixRunsTheRow : Prop :=
  ∀ s : State,
    ∃ t, exec .prefixCb s = .next t ∧
      exec (decodeCb (s.busRead s.cpu.pc).1)
        ((s.busRead s.cpu.pc).2.mCycle.onCpu (fun c => { c with pc := c.pc + 1#16 })) = .next t

/-! Jumps, calls and returns. -/

/-- What a jump to `target` does: PC takes it after the idle M-cycle, if the form has one; nothing else of the
CPU changes and nothing is stored. `u` is what the jump's M-cycles make of the state. -/
def JumpsTo (i : Instr) (target : Word) (cycles : Nat) (u s : State) : Prop :=
  ∃ t, exec i s = .next t ∧ Takes cycles i s t ∧ t.cpu = { s.cpu with pc := target } ∧
    State.SameUnits u t ∧ Frame s t

/-- The condition of a conditional form: NZ, Z, NC and C (rule R560). -/
def condHolds (cc : Cond) (c : Cpu) : Bool :=
  match cc with
  | .nz => !c.f.getLsbD 7
  | .z => c.f.getLsbD 7
  | .nc => !c.f.getLsbD 4
  | .c => c.f.getLsbD 4

/-- `JP nn`, `JP HL` and `JR e` (rules R561, R563, R564): PC takes nn, HL, or the address of the next instruction plus
the signed displacement modulo 2^16; and `JP cc,nn` and `JR cc,e` (rules R560, R562, R565): a jump when the
condition holds, and otherwise nothing at all after the fetch, in 4 T-cycles less. -/
def Obligations.Jump : Prop :=
  (∀ (e : Byte) (nn : Word) (s : State),
     (Encoded (.jpNn nn) [0xC3#8, nn.lo, nn.hi] ∧ JumpsTo (.jpNn nn) nn 16 s.mCycle s) ∧
     (Encoded .jpHl [0xE9#8] ∧ JumpsTo .jpHl s.cpu.hl 4 s s) ∧
     (Encoded (.jrOff e) [0x18#8, e] ∧
       JumpsTo (.jrOff e) (BitVec.ofInt 16 (s.cpu.pc.toNat + e.toInt)) 12 s.mCycle s)) ∧
  (∀ (cc : Cond) (e : Byte) (nn : Word) (s : State),
     Encoded (Instr.jpCond cc nn) [opByte (0xC2 + 8 * cc.code), nn.lo, nn.hi] ∧
     Encoded (Instr.jrCond cc e) [opByte (0x20 + 8 * cc.code), e] ∧
     (condHolds cc s.cpu = true →
       JumpsTo (Instr.jpCond cc nn) nn 16 s.mCycle s ∧
       JumpsTo (Instr.jrCond cc e) (BitVec.ofInt 16 (s.cpu.pc.toNat + e.toInt)) 12 s.mCycle s) ∧
     (condHolds cc s.cpu = false →
       (exec (Instr.jpCond cc nn) s = .next s ∧ Takes 12 (Instr.jpCond cc nn) s s) ∧
       (exec (Instr.jrCond cc e) s = .next s ∧ Takes 8 (Instr.jrCond cc e) s s)))

/-- What a call of `target` does: an idle M-cycle, the return address pushed high byte first (at SP - 1, then the
low byte at SP - 2), SP down by 2 and PC at the target; nothing else of the CPU changes. -/
def Calls (i : Instr) (target : Word) (cycles : Nat) (s : State) : Prop :=
  ∃ t, exec i s = .next t ∧ Takes cycles i s t ∧
    t.cpu = { s.cpu with sp := s.cpu.sp - 2#16, pc := target } ∧
    State.SameUnits ((s.mCycle.memWrite (s.cpu.sp - 1#16) s.cpu.pc.hi).memWrite
      (s.cpu.sp - 2#16) s.cpu.pc.lo) t ∧
    StoresTwo (s.cpu.sp - 1#16) s.cpu.pc.hi (s.cpu.sp - 2#16) s.cpu.pc.lo s.mCycle t

/-- `CALL nn`, `CALL cc,nn` and `RST t` (rules R566, R567, R571): after an idle M-cycle the address of the next
instruction is pushed, high byte first, SP goes down by 2 and PC takes the target, nn or 8 y; nothing else of the CPU
changes; a condition that does not hold leaves the state as the fetch left it, in 12 T-cycles. -/
def Obligations.Call : Prop :=
  ∀ (cc : Cond) (y : Fin 8) (nn : Word) (s : State),
    (Encoded (.callNn nn) [0xCD#8, nn.lo, nn.hi] ∧ Calls (.callNn nn) nn 24 s) ∧
    (Encoded (Instr.rst y) [opByte (0xC7 + 8 * y.val)] ∧
      Calls (Instr.rst y) (BitVec.ofNat 16 (8 * y.val)) 16 s) ∧
    Encoded (Instr.callCond cc nn) [opByte (0xC4 + 8 * cc.code), nn.lo, nn.hi] ∧
    (condHolds cc s.cpu = true → Calls (Instr.callCond cc nn) nn 24 s) ∧
    (condHolds cc s.cpu = false →
      exec (Instr.callCond cc nn) s = .next s ∧ Takes 12 (Instr.callCond cc nn) s s)

/-- What a return from `s` does: the low byte of PC is read at SP and the high byte at SP + 1, an idle M-cycle
follows, and SP goes up by 2; IME becomes `ime`, and nothing else of the CPU changes. `s0` is the state the
instruction started in. -/
def Returns (i : Instr) (ime : Bool) (cycles : Nat) (s0 s : State) : Prop :=
  ∃ t, exec i s0 = .next t ∧ Takes cycles i s0 t ∧
    t.cpu.pc.lo = (s.memRead s.cpu.sp).1 ∧
    t.cpu.pc.hi = ((s.memRead s.cpu.sp).2.memRead (s.cpu.sp + 1#16)).1 ∧
    t.cpu = { s0.cpu with sp := s0.cpu.sp + 2#16, pc := t.cpu.pc, ime := ime } ∧
    State.SameUnits ((s.memRead s.cpu.sp).2.memRead (s.cpu.sp + 1#16)).2.mCycle t ∧ Frame s0 t

/-- `RET`, `RETI` and `RET cc` (rules R568 to R570): RETI sets IME at once; `RET cc` spends an M-cycle on the
condition and returns when it holds. -/
def Obligations.Return : Prop :=
  ∀ (cc : Cond) (s : State),
    (Encoded .ret [0xC9#8] ∧ Returns .ret s.cpu.ime 16 s s) ∧
    (Encoded .reti [0xD9#8] ∧ Returns .reti true 16 s s) ∧
    Encoded (Instr.retCond cc) [opByte (0xC0 + 8 * cc.code)] ∧
    (condHolds cc s.cpu = true → Returns (Instr.retCond cc) s.cpu.ime 20 s s.mCycle) ∧
    (condHolds cc s.cpu = false →
      exec (Instr.retCond cc) s = .next s.mCycle ∧ Takes 8 (Instr.retCond cc) s s.mCycle)

/-! NOP, DI, EI, HALT, STOP and the illegal opcodes. -/

/-- `NOP`, `DI` and `EI` (rules R601, R604, R605): NOP does nothing; DI clears IME and IME_PENDING; EI sets
IME_PENDING and leaves IME, which the next opcode fetch sets, so with IME = 0 the check after EI does nothing. With
IME already 1, EI changes nothing observable: whether or not the check after it dispatches, the next opcode fetch
finds and leaves what it would after a NOP. The model meets that sentence of rule R605 by clearing IME_PENDING at a
dispatch (assumption log 18). -/
def Obligations.NopDiEi : Prop :=
  ∀ s : State,
    (Encoded .nop [0x00#8] ∧ exec .nop s = .next s ∧ Takes 4 .nop s s) ∧
    (Encoded .di [0xF3#8] ∧
      ∃ t, exec .di s = .next t ∧ Takes 4 .di s t ∧
        t.cpu = { s.cpu with ime := false, imePending := false } ∧ State.SameUnits s t) ∧
    (Encoded .ei [0xFB#8] ∧
      ∃ t, exec .ei s = .next t ∧ Takes 4 .ei s t ∧ t.cpu = { s.cpu with imePending := true } ∧
        State.SameUnits s t ∧ t.fetchOpcode.2.cpu.ime = true ∧
        (s.cpu.ime = false → t.interruptCheck = t) ∧
        (s.cpu.ime = true → t.interruptCheck.fetchOpcode = s.interruptCheck.fetchOpcode))

/-- `HALT` (rule R602): with nothing pending the CPU halts; with an interrupt pending it does not, and with IME = 0
besides HALT_BUG is set. Nothing else changes. -/
def Obligations.Halt : Prop :=
  ∀ s : State,
    let pending := s.irq.ie &&& s.irq.ifr
    Encoded .halt [0x76#8] ∧
    ∃ t, exec .halt s = .next t ∧ Takes 4 .halt s t ∧ State.SameUnits s t ∧
      (pending = 0#5 → t.cpu = { s.cpu with halted := true }) ∧
      (pending ≠ 0#5 → s.cpu.ime = false → t.cpu = { s.cpu with haltBug := true }) ∧
      (pending ≠ 0#5 → s.cpu.ime = true → t.cpu = s.cpu)

/-- `STOP` (rules R328, R603): the second byte, whatever it is, is skipped with no bus access; STOPPED is set when
nothing is pending; the counter is cleared when the parameter STOP_RESETS_DIV is set, as a DIV write clears it
(rule R762), and otherwise nothing outside the CPU changes. That STOP leaves HALTED, which test vector V46.7 lists as
1, is the model's reading (assumption log 15). -/
def Obligations.Stop : Prop :=
  ∀ (b : Byte) (s : State),
    let pending := s.irq.ie &&& s.irq.ifr
    (∀ rest, decode (0x10#8 :: b :: rest) = .ok .stop rest) ∧
    ∃ t, exec .stop s = .next t ∧ Takes 4 .stop s t ∧
      t.cpu = { s.cpu with
        pc := s.cpu.pc + 1#16, stopped := s.cpu.stopped || decide (pending = 0#5) } ∧
      (s.params.stopResetsDiv = false → State.SameUnits s t) ∧
      (s.params.stopResetsDiv = true → t.timer.counter = 0#16 ∧
        State.SameUnits { s with timer := s.timer.clearCounter } t)

/-- The eleven illegal opcodes (rules R327, R606, R730): LOCKED is set, PC is the address the illegal byte was
fetched from, and the byte is recorded; nothing else changes. Then, with no host input, the machine's step is the
fault IllegalOpcode with that address and byte, whatever the state of the units. That the exception is entered by a
next state and reported by the step after it, and the latch that keeps the address, are the model's choice
(assumption log 6). -/
def Obligations.IllegalOpcodeLocks : Prop :=
  ∀ s : State,
    ∀ x ∈ [(Instr.illegalD3, 0xD3#8), (.illegalDB, 0xDB#8), (.illegalDD, 0xDD#8),
        (.illegalE3, 0xE3#8), (.illegalE4, 0xE4#8), (.illegalEB, 0xEB#8), (.illegalEC, 0xEC#8),
        (.illegalED, 0xED#8), (.illegalF4, 0xF4#8), (.illegalFC, 0xFC#8), (.illegalFD, 0xFD#8)],
      Encoded x.1 [x.2] ∧
      ∃ t, exec x.1 s = .next t ∧ Takes 4 x.1 s t ∧ State.SameUnits s t ∧
        t.cpu = { s.cpu with pc := s.cpu.opcodeAddr, locked := true, illegalByte := x.2 } ∧
        t.interruptCheck = t ∧
        (t.hostInputs = [] → step t = .fault (.illegalOpcode s.cpu.opcodeAddr x.2))

/-! Interrupts, the run states and the step. -/

/-- The interrupt check and the dispatch (rules R710 to R712): with IME = 1, an interrupt pending and the CPU not
LOCKED, the lowest pending one, i, is acknowledged and IME, HALTED and STOPPED are cleared; after two idle
M-cycles PC is pushed, high byte first, and after one more PC is 0x40 + 8 i; 20 T-cycles in all. With IME = 0,
with nothing pending, or while LOCKED, the check does nothing. That the dispatch clears IME_PENDING too is the
model's choice (assumption log 18). -/
def Obligations.InterruptCheck : Prop :=
  (∀ (s : State) (i : Nat), i < 5 → s.cpu.locked = false → s.cpu.ime = true →
     (s.irq.ie &&& s.irq.ifr).getLsbD i = true →
     (∀ j, j < i → (s.irq.ie &&& s.irq.ifr).getLsbD j = false) →
     let u := { s with irq := { s.irq with ifr := s.irq.ifr &&& ~~~(1#5 <<< i) } }
     s.interruptCheck.cpu = { s.cpu with
       sp := s.cpu.sp - 2#16, pc := BitVec.ofNat 16 (0x40 + 8 * i)
       ime := false, imePending := false, halted := false, stopped := false } ∧
     State.SameUnits (((u.mCycle.mCycle.memWrite (s.cpu.sp - 1#16) s.cpu.pc.hi).memWrite
       (s.cpu.sp - 2#16) s.cpu.pc.lo).mCycle) s.interruptCheck ∧
     StoresTwo (s.cpu.sp - 1#16) s.cpu.pc.hi (s.cpu.sp - 2#16) s.cpu.pc.lo u.mCycle.mCycle
       ((u.mCycle.mCycle.memWrite (s.cpu.sp - 1#16) s.cpu.pc.hi).memWrite
         (s.cpu.sp - 2#16) s.cpu.pc.lo) ∧
     s.interruptCheck.clock = s.clock + 20) ∧
  (∀ s : State,
     s.cpu.locked = true ∨ s.cpu.ime = false ∨ s.irq.ie &&& s.irq.ifr = 0#5 → s.interruptCheck = s)

/-- A halted or stopped CPU (rule R720): with no host input and not LOCKED, a step is one idle M-cycle; if an
enabled request is there at its end HALTED and STOPPED are cleared, whatever IME, and the interrupt check runs;
if none is, the CPU stays as it is. That the check and any dispatch fall in the idle M-cycle's own step is the
model's choice (assumption log 7): rule R906 makes a dispatch a step of its own. -/
def Obligations.HaltedStep : Prop :=
  ∀ s : State, s.hostInputs = [] → s.cpu.locked = false →
    s.cpu.halted = true ∨ s.cpu.stopped = true →
    let m := s.mCycle
    (m.irq.ie &&& m.irq.ifr = 0#5 → step s = .next m ∧ m.cpu = s.cpu) ∧
    (m.irq.ie &&& m.irq.ifr ≠ 0#5 →
      step s = .next (State.interruptCheck
        { m with cpu := { s.cpu with halted := false, stopped := false } }))

/-- The opcode fetch (rules R108, R320, R322): the byte the bus gives at PC; PC goes up by one, or stays where
HALT_BUG is set, which it clears; IME_PENDING moves into IME; one M-cycle passes and nothing is stored. The latch
`opcodeAddr` of the address read is the model's own (assumption log 6). -/
def Obligations.OpcodeFetch : Prop :=
  ∀ s : State,
    s.fetchOpcode.1 = (s.busRead s.cpu.pc).1 ∧
    s.fetchOpcode.2.cpu = { s.cpu with
      pc := if s.cpu.haltBug then s.cpu.pc else s.cpu.pc + 1#16
      ime := s.cpu.ime || s.cpu.imePending
      imePending := false, haltBug := false, opcodeAddr := s.cpu.pc } ∧
    State.SameUnits (s.busRead s.cpu.pc).2.mCycle s.fetchOpcode.2 ∧
    s.fetchOpcode.2.clock = s.clock + 4 ∧ Frame s s.fetchOpcode.2

/-- A step runs the decoded instruction (rules R320, R710): with no host input and the CPU neither HALTED, STOPPED
nor LOCKED, when the bytes fetched at PC decode to a complete instruction, the step is `exec` of it in the state
the fetch leaves, followed by the interrupt check. A fetched byte an instruction has not is 00. That one step holds
the fetch of all its bytes, then `exec`, then the check with any dispatch, is the model's choice (assumption logs 7
and 13; rule R906 counts a dispatch as a step of its own). -/
def Obligations.StepRunsDecoded : Prop :=
  ∀ (s : State) (i : Instr) (rest : List Byte),
    s.hostInputs = [] → s.cpu.halted = false → s.cpu.stopped = false → s.cpu.locked = false →
    let op := s.fetchOpcode
    let bs := op.2.fetchOperands (operandBytes op.1)
    decode [op.1, bs.1.1, bs.1.2] = .ok i rest → i.wellFormed = true →
    ∀ t, exec i bs.2 = .next t → step s = .next t.interruptCheck

/-- The bytes in memory run (rules R103, R253, R300, R320): with the machine quiet and three bytes in WRAM at PC
that decode to a complete instruction i, the step runs `exec` of i in the state that one idle M-cycle for each
byte of i leaves, with PC past those bytes, IME_PENDING moved into IME, the model's latch `opcodeAddr` at the old PC
(assumption log 6) and everything else of the CPU as it was. That the fetches, `exec` and the check with any dispatch
make one step is the model's choice (assumption logs 7 and 13). -/
def Obligations.StepRunsMemory : Prop :=
  ∀ (s : State) (i : Instr) (rest : List Byte),
    s.hostInputs = [] → s.cpu.halted = false → s.cpu.stopped = false → s.cpu.locked = false →
    s.cpu.haltBug = false → s.quiet = true →
    0xC000 ≤ s.cpu.pc.toNat → s.cpu.pc.toNat + 2 < 0xE000 →
    decode [s.byteAt s.cpu.pc.toNat, s.byteAt (s.cpu.pc.toNat + 1),
      s.byteAt (s.cpu.pc.toNat + 2)] = .ok i rest →
    i.wellFormed = true →
    ∀ t, exec i { State.mCycles i.fetches s with
        cpu := { s.cpu with
          pc := s.cpu.pc + BitVec.ofNat 16 i.fetches, opcodeAddr := s.cpu.pc
          ime := s.cpu.ime || s.cpu.imePending, imePending := false } } = .next t →
      step s = .next t.interruptCheck

/-- The only fault, and no refusal (rules R214, R730, R731): `exec` answers a next state for every instruction and
every state, and a step stops only on a LOCKED CPU, as IllegalOpcode. That an illegal opcode answers a next state,
with the step after it the fault, is the model's choice (assumption log 6), and so is that BusStall, which no rule
raises, has no fault (assumption log 16). -/
def Obligations.OnlyLockedFaults : Prop :=
  (∀ (i : Instr) (s : State), ∃ t, exec i s = .next t) ∧
  (∀ (s : State), s.takeInput.cpu.locked = false → ∃ t, step s = .next t) ∧
  (∀ (s : State), s.takeInput.cpu.locked = true →
    step s = .fault (.illegalOpcode s.takeInput.cpu.pc s.takeInput.cpu.illegalByte))

/-- Who writes the control bits (rules R107 to R109): of all instructions IME is changed by DI and RETI only,
IME_PENDING by DI and EI, HALTED by HALT, HALT_BUG by HALT, STOPPED by STOP, and LOCKED by the illegal opcodes
(the bare prefix counts as the row it runs, none of these). That STOP leaves HALTED is the model's reading, against
test vector V46.7 (assumption log 15); `opcodeAddr` and `illegalByte` are the model's own latches (assumption log 6). -/
def Obligations.ControlBitWriters : Prop :=
  ∀ (i : Instr) (s t : State), exec i s = .next t →
    (i ≠ .di → i ≠ .reti → t.cpu.ime = s.cpu.ime) ∧
    (i ≠ .di → i ≠ .ei → t.cpu.imePending = s.cpu.imePending) ∧
    (i ≠ .halt → t.cpu.halted = s.cpu.halted ∧ t.cpu.haltBug = s.cpu.haltBug) ∧
    (i ≠ .stop → t.cpu.stopped = s.cpu.stopped) ∧
    (i.legal = true → t.cpu.locked = s.cpu.locked ∧ t.cpu.illegalByte = s.cpu.illegalByte) ∧
    t.cpu.opcodeAddr = s.cpu.opcodeAddr

/-- Who writes IF (rules R701, R760, R764, R800, R802, R823, R824, R860, R870, R871, R905), at any T-cycle: bit 0 when
the LCD is on and the PPU comes to line 144, dot 0; bit 1 when the STAT line, which it computes from the position
it comes to, rises; bit 2 when the reload delay has one T-cycle left; bit 3 when the serial countdown does; bit 4
when a bit of P1[3:0] that was 1 now reads 0. A bit already set stays. -/
def Obligations.RequestSources : Prop :=
  ∀ (k : Nat) (s : State), s.ppu.line ≤ 153 → s.ppu.dot ≤ 455 →
    let t := s.tCycle k
    let p := t.ppu
    let ly := if p.line = 153 ∧ p.dot = 455 then 0 else p.line
    let level := s.ppu.lcdc.getLsbD 7 &&
      (p.statSel.getLsbD 3 && decide (ly = p.lyc.toNat)
        || p.statSel.getLsbD 2 && decide (p.mode = .oamScan)
        || p.statSel.getLsbD 1 && decide (p.mode = .vblank)
        || p.statSel.getLsbD 0 && decide (p.mode = .hblank))
    let off := s.ppu.lcdc.getLsbD 7 = false
    (t.irq.ifr.getLsbD 0 =
      (s.irq.ifr.getLsbD 0 || (s.ppu.lcdc.getLsbD 7 && decide (p.line = 144 ∧ p.dot = 0)))) ∧
    (t.irq.ifr.getLsbD 1 = (s.irq.ifr.getLsbD 1 || (!s.ppu.statline && level))) ∧
    (t.irq.ifr.getLsbD 2 = (s.irq.ifr.getLsbD 2 || decide (s.timer.reload = 1))) ∧
    (t.irq.ifr.getLsbD 3 = (s.irq.ifr.getLsbD 3 || decide (s.serial.countdown = 1))) ∧
    (t.irq.ifr.getLsbD 4 = (s.irq.ifr.getLsbD 4 ||
      [0, 1, 2, 3].any (fun i => s.joypad.low.getLsbD i && !s.joypad.readP1.getLsbD i))) ∧
    t.irq.ie = s.irq.ie ∧
    (off → t.ppu = s.ppu) ∧ (¬ off → t.ppu.statline = level)

/-! Encodings. -/

/-- Decoding an encoded instruction gives it back, with every operand at every value, whatever follows (rules R300 to
R315, R321, R323, R324). -/
def Obligations.DecodeEncode : Prop :=
  ∀ i : Instr, i.wellFormed = true → ∀ rest, decode (encode i ++ rest) = .ok i rest

/-- Encoding what was decoded gives the bytes back (rules R300, R321, R327, R328, R329): any three bytes begin with a
complete instruction, whose bytes they begin with, but for STOP's second byte, which may be any; and it is illegal
exactly when the first byte is one of the eleven. -/
def Obligations.EncodeDecode : Prop :=
  ∀ (op b1 b2 : Byte) (rest : List Byte),
    ∃ i k, decode (op :: b1 :: b2 :: rest) = .ok i (k ++ rest) ∧ i.wellFormed = true ∧
      (op ≠ 0x10#8 → encode i ++ k = [op, b1, b2]) ∧ (op = 0x10#8 → i = .stop ∧ k = [b2]) ∧
      (i.legal = false ↔ op ∈ illegalBytes)

/-- Some words of the spec's tables (rules R300, R323, R324), one for each family at least, decode to the rows they
stand for. -/
def Obligations.TableWords : Prop :=
  decode [0x78#8] = .ok .ldAB [] ∧
  decode [0x36#8, 0x5A#8] = .ok (.ldAtHlN 0x5A#8) [] ∧
  decode [0x21#8, 0x34#8, 0x12#8] = .ok (.ldHlNn 0x1234#16) [] ∧
  decode [0xF5#8] = .ok .pushAf [] ∧
  decode [0x8E#8] = .ok .adcAAtHl [] ∧
  decode [0xFE#8, 0x90#8] = .ok (.cpN 0x90#8) [] ∧
  decode [0x39#8] = .ok .addHlSp [] ∧
  decode [0x1F#8] = .ok .rra [] ∧
  decode [0xCB#8, 0x37#8] = .ok .swapA [] ∧
  decode [0xCB#8, 0x7E#8] = .ok .bit7AtHl [] ∧
  decode [0x20#8, 0xFE#8] = .ok (.jrNzOff 0xFE#8) [] ∧
  decode [0xCD#8, 0x50#8, 0x01#8] = .ok (.callNn 0x0150#16) [] ∧
  decode [0xEF#8] = .ok .rst28 [] ∧
  decode [0x76#8] = .ok .halt [] ∧
  decode [0xED#8] = .ok .illegalED []

/-! The bus. -/

/-- CPU reads by address (rules R200 to R202, R220, R221, R241), with no DMA active: the boot ROM over 0x0000 to
0x00FF while it is mapped, the cartridge, VRAM and OAM with 0xFF where the PPU blocks them, WRAM and its echo,
0xFF in the unusable range, HRAM and IE. Outside the cartridge a read changes nothing. That a NoMBC cartridge's bytes
stand in memory, and 0xFF where it has no RAM, is the model's choice (assumption log 3). -/
def Obligations.BusReadMap : Prop :=
  ∀ (a : Word) (s : State), s.dma.active = false →
    let n := a.toNat
    let on := s.ppu.lcdc.getLsbD 7
    (n < 0x100 → s.bootMapped = true →
      s.busRead a = (s.params.bootRom.getD n (Config.bootRom n), s)) ∧
    (n < 0x8000 ∧ (0x100 ≤ n ∨ s.bootMapped = false) ∨ 0xA000 ≤ n ∧ n < 0xC000 →
      s.busRead a = s.cartRead n ∧
      (s.cart = .noMbc true → s.busRead a = (s.byteAt n, s)) ∧
      (s.cart = .noMbc false → s.busRead a = (if n < 0x8000 then s.byteAt n else 0xFF#8, s))) ∧
    (0x8000 ≤ n → n < 0xA000 →
      s.busRead a = (if on = true ∧ s.ppu.mode = .drawing then 0xFF#8 else s.byteAt n, s)) ∧
    (0xC000 ≤ n → n < 0xE000 → s.busRead a = (s.byteAt n, s)) ∧
    (0xE000 ≤ n → n < 0xFE00 → s.busRead a = (s.byteAt (n - 0x2000), s)) ∧
    (0xFE00 ≤ n → n < 0xFEA0 →
      s.busRead a = (if on = true ∧ (s.ppu.mode = .oamScan ∨ s.ppu.mode = .drawing) then 0xFF#8
        else s.byteAt n, s)) ∧
    (0xFEA0 ≤ n → n < 0xFF00 → s.busRead a = (0xFF#8, s)) ∧
    (0xFF80 ≤ n → n < 0xFFFF → s.busRead a = (s.byteAt n, s)) ∧
    (n = 0xFFFF → s.busRead a = (0xE0#8 ||| s.irq.ie.setWidth 8, s))

/-- The addresses of the I/O page with an owner other than the APU (rule R110). -/
def ioRegisters : List Word :=
  [0xFF00#16, 0xFF01#16, 0xFF02#16, 0xFF04#16, 0xFF05#16, 0xFF06#16, 0xFF07#16, 0xFF0F#16, 0xFF40#16,
    0xFF41#16, 0xFF42#16, 0xFF43#16, 0xFF44#16, 0xFF45#16, 0xFF46#16, 0xFF47#16, 0xFF48#16, 0xFF49#16,
    0xFF4A#16, 0xFF4B#16, 0xFF50#16]

/-- The I/O registers as they read (rules R110 to R112, R120 to R126, R130, R203, R766, R870 to R873), with no DMA
active; the addresses from 0xFF00 to 0xFF7F that are none of these read 0xFF. A read changes nothing. -/
def Obligations.IoReadMap : Prop :=
  ∀ s : State, s.dma.active = false →
    let j := s.joypad
    let lines := (if j.select.getLsbD 1 then 0xF#4 else ~~~(j.input.setWidth 4)) &&&
      (if j.select.getLsbD 0 then 0xF#4 else ~~~((j.input >>> 4).setWidth 4))
    let ly := if s.ppu.lcdc.getLsbD 7 = false ∨ s.ppu.line = 153 ∧ s.ppu.dot = 455 then 0
      else s.ppu.line
    let mode : BitVec 2 := match s.ppu.mode with
      | .hblank => 0
      | .vblank => 1
      | .oamScan => 2
      | .drawing => 3
    let table : List (Word × Byte) :=
      [(0xFF00#16, 3#2 ++ j.select ++ lines), (0xFF01#16, s.serial.sb),
        (0xFF02#16, BitVec.ofBool s.serial.start ++ 0x3F#6 ++ BitVec.ofBool s.serial.internal),
        (0xFF04#16, (s.timer.counter >>> 8).setWidth 8), (0xFF05#16, s.timer.tima),
        (0xFF06#16, s.timer.tma), (0xFF07#16, 0x1F#5 ++ s.timer.tac),
        (0xFF0F#16, 7#3 ++ s.irq.ifr), (0xFF40#16, s.ppu.lcdc),
        (0xFF41#16, 1#1 ++ s.ppu.statSel ++ BitVec.ofBool (decide (ly = s.ppu.lyc.toNat)) ++ mode),
        (0xFF42#16, s.ppu.scy), (0xFF43#16, s.ppu.scx), (0xFF44#16, BitVec.ofNat 8 ly),
        (0xFF45#16, s.ppu.lyc), (0xFF46#16, s.dma.reg), (0xFF47#16, s.ppu.bgp),
        (0xFF48#16, s.ppu.obp0), (0xFF49#16, s.ppu.obp1), (0xFF4A#16, s.ppu.wy),
        (0xFF4B#16, s.ppu.wx), (0xFF50#16, 0xFF#8)]
    (∀ x ∈ table, s.busRead x.1 = (x.2, s)) ∧
    (∀ a : Word, 0xFF10 ≤ a.toNat → a.toNat < 0xFF40 →
      s.busRead a = (apuRead s.params.apuRead a.toNat, s)) ∧
    (∀ a : Word, 0xFF00 ≤ a.toNat → a.toNat < 0xFF80 → ¬(0xFF10 ≤ a.toNat ∧ a.toNat < 0xFF40) →
      a ∉ ioRegisters → s.busRead a = (0xFF#8, s))

/-- Accesses the PPU or the DMA blocks (rules R214, R220, R221, R231, R232): the read gives 0xFF, the write is dropped,
and no access traps or changes anything. -/
def Obligations.BlockedAccess : Prop :=
  ∀ (a : Word) (v : Byte) (s : State),
    let n := a.toNat
    (s.dma.active = true ∧ ¬(0xFF80 ≤ n ∧ n < 0xFFFF) ∨
      s.ppu.lcdc.getLsbD 7 = true ∧ s.ppu.mode = .drawing ∧ 0x8000 ≤ n ∧ n < 0xA000 ∨
      s.ppu.lcdc.getLsbD 7 = true ∧ (s.ppu.mode = .oamScan ∨ s.ppu.mode = .drawing) ∧
        0xFE00 ≤ n ∧ n < 0xFEA0) →
    s.busRead a = (0xFF#8, s) ∧ s.busWrite a v = s

/-- CPU writes to memory read back (rules R201, R211, R213, R250, R253): in WRAM, through the echo on either side, in
HRAM, in VRAM and OAM the PPU does not block, and in a NoMBC cartridge's RAM the byte written is the byte read,
and every other stored byte and everything outside memory is kept. A write to the unusable range, or to the ROM of
a NoMBC cartridge (the model's choice, assumption log 3), does nothing. -/
def Obligations.MemoryWritesReadBack : Prop :=
  ∀ (a b : Word) (v : Byte) (s : State), s.dma.active = false →
    let n := a.toNat
    let on := s.ppu.lcdc.getLsbD 7
    (0xC000 ≤ n ∧ n < 0xE000 ∧ b = a ∨ 0xC000 ≤ n ∧ n < 0xDE00 ∧ b = a + 0x2000#16 ∨
      0xE000 ≤ n ∧ n < 0xFE00 ∧ b = a ∨ 0xE000 ≤ n ∧ n < 0xFE00 ∧ b = a - 0x2000#16 ∨
      0xFF80 ≤ n ∧ n < 0xFFFF ∧ b = a ∨
      0x8000 ≤ n ∧ n < 0xA000 ∧ b = a ∧ ¬(on = true ∧ s.ppu.mode = .drawing) ∨
      0xFE00 ≤ n ∧ n < 0xFEA0 ∧ b = a ∧
        ¬(on = true ∧ (s.ppu.mode = .oamScan ∨ s.ppu.mode = .drawing)) ∨
      0xA000 ≤ n ∧ n < 0xC000 ∧ b = a ∧ s.cart = .noMbc true →
      ((s.busWrite a v).busRead b).1 = v ∧
      (∀ k, k ≠ n → (0xE000 ≤ n → n < 0xFE00 → k + 0x2000 ≠ n) →
        (s.busWrite a v).byteAt k = s.byteAt k) ∧
      { s.busWrite a v with mem := s.mem } = s) ∧
    (0xFEA0 ≤ n → n < 0xFF00 → s.busWrite a v = s) ∧
    (n < 0x8000 → ∀ ram, s.cart = .noMbc ram → s.busWrite a v = s)

/-- CPU writes to the I/O registers and IE (rules R110, R111, R121, R126, R203, R230, R823, R862, R870 to R873), with
no DMA active and DIV and TAC left to `TimerWrites`: what the write changes, and nothing else. SB, TMA and the PPU's
plain registers take the byte, TIMA too, ending a reload; IF and IE keep five bits; DMA asks for a transfer; 0xFF50
unmaps the boot ROM. P1 keeps two select bits and STAT four; P1[3:0] is evaluated after a write of P1, and the STAT
line after one of STAT, LYC or LCDC, and each may raise its request. SC starts a transfer with both its bits set
(that any other write of SC leaves none running is the model's choice, assumption log 8). A write of LCDC that keeps
bit 7 changes no more than that; one that changes it changes the PPU and IF alone (`LcdOffAndOn`). LY, the APU's
addresses and those with no owner ignore the write. -/
def Obligations.IoWriteMap : Prop :=
  ∀ (v : Byte) (s : State), s.dma.active = false →
    let table : List (Word × State) :=
      [(0xFF01#16, { s with serial := { s.serial with sb := v } }),
        (0xFF05#16, { s with timer := { s.timer with tima := v, reload := 0 } }),
        (0xFF06#16, { s with timer := { s.timer with tma := v } }),
        (0xFF0F#16, { s with irq := { s.irq with ifr := v.setWidth 5 } }),
        (0xFF42#16, { s with ppu := { s.ppu with scy := v } }),
        (0xFF43#16, { s with ppu := { s.ppu with scx := v } }),
        (0xFF44#16, s),
        (0xFF46#16, { s with dma := { s.dma with reg := v, start := true } }),
        (0xFF47#16, { s with ppu := { s.ppu with bgp := v } }),
        (0xFF48#16, { s with ppu := { s.ppu with obp0 := v } }),
        (0xFF49#16, { s with ppu := { s.ppu with obp1 := v } }),
        (0xFF4A#16, { s with ppu := { s.ppu with wy := v } }),
        (0xFF4B#16, { s with ppu := { s.ppu with wx := v } }),
        (0xFF50#16, { s with bootMapped := false }),
        (0xFFFF#16, { s with irq := { s.irq with ie := v.setWidth 5 } })]
    let requested (bit : BitVec 5) (event : Bool) : Interrupts :=
      { s.irq with ifr := if event then s.irq.ifr ||| bit else s.irq.ifr }
    let low := (if v.getLsbD 5 then 0xF#4 else ~~~(s.joypad.input.setWidth 4)) &&&
      (if v.getLsbD 4 then 0xF#4 else ~~~((s.joypad.input >>> 4).setWidth 4))
    let ly := if s.ppu.lcdc.getLsbD 7 = false ∨ s.ppu.line = 153 ∧ s.ppu.dot = 455 then 0
      else s.ppu.line
    let level (sel : BitVec 4) (lyc : Byte) : Bool := s.ppu.lcdc.getLsbD 7 &&
      (sel.getLsbD 3 && decide (ly = lyc.toNat)
        || sel.getLsbD 2 && decide (s.ppu.mode = .oamScan)
        || sel.getLsbD 1 && decide (s.ppu.mode = .vblank)
        || sel.getLsbD 0 && decide (s.ppu.mode = .hblank))
    let rises (l : Bool) : Interrupts := requested 0b00010#5 (!s.ppu.statline && l)
    let sel : BitVec 4 := (v >>> 3).setWidth 4
    (∀ x ∈ table, s.busWrite x.1 v = x.2) ∧
    s.busWrite 0xFF00#16 v = { s with
      joypad := { s.joypad with select := (v >>> 4).setWidth 2, low := low }
      irq := requested 0b10000#5
        ([0, 1, 2, 3].any (fun i => s.joypad.low.getLsbD i && !low.getLsbD i)) } ∧
    (v.getLsbD 7 = true ∧ v.getLsbD 0 = true → s.busWrite 0xFF02#16 v = { s with
      serial := { s.serial with
        start := true, internal := true, countdown := 4096, out := s.serial.out ++ [s.serial.sb] } }) ∧
    (¬(v.getLsbD 7 = true ∧ v.getLsbD 0 = true) → s.busWrite 0xFF02#16 v = { s with
      serial := { s.serial with
        start := v.getLsbD 7, internal := v.getLsbD 0, countdown := 0 } }) ∧
    s.busWrite 0xFF41#16 v = { s with
      ppu := { s.ppu with statSel := sel, statline := level sel s.ppu.lyc }
      irq := rises (level sel s.ppu.lyc) } ∧
    s.busWrite 0xFF45#16 v = { s with
      ppu := { s.ppu with lyc := v, statline := level s.ppu.statSel v }
      irq := rises (level s.ppu.statSel v) } ∧
    (v.getLsbD 7 = s.ppu.lcdc.getLsbD 7 → s.busWrite 0xFF40#16 v = { s with
      ppu := { s.ppu with lcdc := v, statline := level s.ppu.statSel s.ppu.lyc }
      irq := rises (level s.ppu.statSel s.ppu.lyc) }) ∧
    (s.busWrite 0xFF40#16 v).ppu.lcdc = v ∧
    { s.busWrite 0xFF40#16 v with ppu := s.ppu, irq := s.irq } = s ∧
    (∀ a : Word, 0xFF10 ≤ a.toNat → a.toNat < 0xFF40 → s.busWrite a v = s) ∧
    (∀ a : Word, 0xFF4C ≤ a.toNat → a.toNat < 0xFF80 → a ≠ 0xFF50#16 → s.busWrite a v = s) ∧
    (∀ a ∈ [0xFF03#16, 0xFF08#16, 0xFF09#16, 0xFF0A#16, 0xFF0B#16, 0xFF0C#16, 0xFF0D#16, 0xFF0E#16],
      s.busWrite a v = s)

/-! The timer. -/

/-- The period in T-cycles that TAC[1:0] selects (rule R761). -/
def timerPeriod (tac : BitVec 3) : Nat :=
  match tac.getLsbD 1, tac.getLsbD 0 with
  | false, false => 1024
  | false, true => 16
  | true, false => 64
  | true, true => 256

/-- TIMA counts the periods (rules R112, R130, R760, R761, R763): over n M-cycles with no CPU access the counter goes up
by 4 n; with the timer enabled, the edge detector in step and no reload under way, TIMA goes up by one for each
time the counter passes a multiple of the period, as long as it does not pass 255; disabled, it stands. -/
def Obligations.TimerCounts : Prop :=
  ∀ (n : Nat) (s : State),
    let t := (State.mCycles n s).timer
    let passed := (s.timer.counter.toNat % timerPeriod s.timer.tac + 4 * n) / timerPeriod s.timer.tac
    t.counter.toNat = (s.timer.counter.toNat + 4 * n) % 65536 ∧ t.tac = s.timer.tac ∧
    (s.timer.reload = 0 → s.timer.tsig = s.timer.signal →
      (s.timer.tac.getLsbD 2 = false → t = { s.timer with counter := t.counter }) ∧
      (s.timer.tac.getLsbD 2 = true → s.timer.tima.toNat + passed ≤ 255 →
        t.tima.toNat = s.timer.tima.toNat + passed ∧ t.reload = 0))

/-- The overflow and the reload delay (rules R763, R764, R767): on the T-cycle in which TIMA, at 0xFF, is incremented
it reads 0 and the delay is 4; it reads 0 after each of the next three T-cycles, and on the fourth TIMA takes TMA
and IF[2] is set. -/
def Obligations.TimerOverflow : Prop :=
  ∀ (k0 k1 k2 k3 k4 : Nat) (s : State),
    s.timer.tima = 0xFF#8 → s.timer.reload = 0 → s.timer.tsig = true →
    s.timer.tac.getLsbD 2 = true →
    (s.timer.counter.toNat + 1) % timerPeriod s.timer.tac = 0 →
    let t0 := s.tCycle k0
    let t1 := t0.tCycle k1
    let t2 := t1.tCycle k2
    let t3 := t2.tCycle k3
    let t4 := t3.tCycle k4
    t0.timer.tima = 0x00#8 ∧ t0.timer.reload = 4 ∧ t1.timer.tima = 0x00#8 ∧
    t2.timer.tima = 0x00#8 ∧ t3.timer.tima = 0x00#8 ∧
    t3.irq.ifr.getLsbD 2 = s.irq.ifr.getLsbD 2 ∧
    t4.timer.tima = s.timer.tma ∧ t4.timer.reload = 0 ∧ t4.irq.ifr.getLsbD 2 = true

/-- A falling edge's increment of TIMA (rule R763). -/
def timaBumped (t : Timer) : Timer :=
  if t.tima = 0xFF#8 then { t with tima := 0x00#8, reload := 4 } else { t with tima := t.tima + 1#8 }

/-- CPU writes to the timer (rules R761, R762, R765, R766), with no DMA active: DIV clears the counter, and TAC changes
its three bits, each of which increments TIMA at once when the detector's input falls; TIMA and TMA take the byte,
a TIMA write cancelling the reload. Nothing outside the timer changes. -/
def Obligations.TimerWrites : Prop :=
  ∀ (v : Byte) (s : State), s.dma.active = false →
    let t := s.timer
    let bit := match v.getLsbD 1, v.getLsbD 0 with
      | false, false => 9
      | false, true => 3
      | true, false => 5
      | true, true => 7
    let sig := v.getLsbD 2 && t.counter.getLsbD bit
    s.busWrite 0xFF04#16 v = { s with timer :=
      { (if t.tsig then timaBumped t else t) with counter := 0#16, tsig := false } } ∧
    s.busWrite 0xFF05#16 v = { s with timer := { t with tima := v, reload := 0 } } ∧
    s.busWrite 0xFF06#16 v = { s with timer := { t with tma := v } } ∧
    s.busWrite 0xFF07#16 v = { s with timer :=
      { (if t.tsig = true ∧ sig = false then timaBumped t else t) with
        tac := v.setWidth 3, tsig := sig } }

/-! The PPU. -/

/-- The PPU's position (rules R800, R803, R860): with the LCD on it moves a dot each T-cycle, through 154 lines of 456
dots; with the LCD off the PPU stands. -/
def Obligations.PpuPosition : Prop :=
  ∀ (n : Nat) (s : State), s.ppu.line ≤ 153 → s.ppu.dot ≤ 455 →
    let t := State.mCycles n s
    (s.ppu.lcdc.getLsbD 7 = true →
      456 * t.ppu.line + t.ppu.dot = (456 * s.ppu.line + s.ppu.dot + 4 * n) % 70224 ∧
      t.ppu.line ≤ 153 ∧ t.ppu.dot ≤ 455 ∧ t.ppu.lcdc = s.ppu.lcdc) ∧
    (s.ppu.lcdc.getLsbD 7 = false → t.ppu = s.ppu)

/-- Some dots of the PPU over one memory. -/
def ppuAfter (mem : Memory) : Nat → Ppu → Ppu
  | 0, p => p
  | n + 1, p => ppuAfter mem n (p.step mem).1

/-- The OAM scan (rules R801, R810): from the dot before a visible line, after 80 dots the PPU is on dot 79 of the line,
still in mode 2, with the first ten entries of OAM, in OAM order, whose Y and height put them on the line. -/
def Obligations.OamScanSelects : Prop :=
  ∀ (mem : Memory) (p : Ppu), p.lcdc.getLsbD 7 = true → p.dot = 455 →
    p.line < 143 ∨ p.line = 153 →
    let q := ppuAfter mem 80 p
    let line := if p.line = 153 then 0 else p.line + 1
    let height := if p.lcdc.getLsbD 2 then 16 else 8
    q.line = line ∧ q.dot = 79 ∧ q.mode = .oamScan ∧
    q.sprites = ((List.range 40).filter (fun n =>
      decide ((Cells.read mem (0xFE00 + 4 * n)).toNat ≤ line + 16) &&
        decide (line + 16 < (Cells.read mem (0xFE00 + 4 * n)).toNat + height))).take 10

/-- The composition of a pixel (rule R843): the shade BGP gives the background's colour, or shade 0, whatever BGP, where
LCDC bit 0 is clear, which makes the background's colour 0 too; unless a sprite pixel of colour other than 0 is
there, sprites are on, and it is not a BG-over-OBJ one over a background colour other than 0: then the shade OBP0 or
OBP1 gives that colour. The shade of colour c is bits 2 c + 1 and 2 c of the palette byte, as the rule's listing takes
it. -/
def Obligations.PixelComposition : Prop :=
  ∀ (bc : Shade) (sp : Option SpritePixel) (p : Ppu),
    let shade (pal : Byte) (c : Shade) : Nat := pal.toNat / 4 ^ c.toNat % 4
    let c := if p.lcdc.getLsbD 0 then bc else 0#2
    let background := if p.lcdc.getLsbD 0 then shade p.bgp c else 0
    (sp = none → (p.compose bc sp).toNat = background) ∧
    (∀ x, sp = some x →
      (x.color = 0#2 ∨ p.lcdc.getLsbD 1 = false ∨ x.bgpri = true ∧ c ≠ 0#2 →
        (p.compose bc sp).toNat = background) ∧
      (x.color ≠ 0#2 → p.lcdc.getLsbD 1 = true → (x.bgpri = true → c = 0#2) →
        (p.compose bc sp).toNat = shade (if x.pal then p.obp1 else p.obp0) x.color))

/-- The LCD turned off and on by a write of LCDC (rules R823, R860, R861), with no DMA active. Off: line 0, dot 0,
mode 0, no sprites, mode 3 at its start, the STAT line 0, no request. On: line 0, dot 0, mode 2 begun, the window's
line counter 0, the blank first frame, and the STAT line computed anew, which may raise a request. Which values are
mode 3's start ones at a turn-off, and that the window's line counter, the tile latches and the first-frame mark stay,
is the model's reading (assumption log 14). -/
def Obligations.LcdOffAndOn : Prop :=
  ∀ (v : Byte) (s : State), s.dma.active = false →
    let t := s.busWrite 0xFF40#16 v
    let p := t.ppu
    let coinc := decide (s.ppu.lyc = 0x00#8)
    let level := s.ppu.statSel.getLsbD 3 && coinc || s.ppu.statSel.getLsbD 2
    t.ppu.lcdc = v ∧ t.ppu.fb = s.ppu.fb ∧ { t with ppu := s.ppu, irq := s.irq } = s ∧
    (s.ppu.lcdc.getLsbD 7 = true → v.getLsbD 7 = false →
      t.irq = s.irq ∧
      p = { s.ppu with
        lcdc := v, line := 0, dot := 0, mode := .hblank, sprites := [], wtrig := false
        statline := false, bgq := [], spq := [], xOut := 0, fx := 0, winmode := false
        discard := s.ppu.scx.toNat % 8, fst := .dummy, fdot := 0, sstall := 0, fetched := [] }) ∧
    (s.ppu.lcdc.getLsbD 7 = false → v.getLsbD 7 = true →
      p.line = 0 ∧ p.dot = 0 ∧ p.mode = .oamScan ∧ p.wline = 0 ∧ p.skipframe = true ∧
      p.statline = level ∧
      t.irq.ifr.getLsbD 1 = (s.irq.ifr.getLsbD 1 || (!s.ppu.statline && level)))

/-- The PPU sees VRAM and OAM only (rules R832, R833, R841, R863): in a state that meets the PPU's invariant, two
memories that agree there give the same dot. -/
def Obligations.PpuReadsVideoMemoryOnly : Prop :=
  ∀ (m1 m2 : Memory) (p : Ppu), p.Inv →
    (∀ k, 0x8000 ≤ k ∧ k < 0xA000 ∨ 0xFE00 ≤ k ∧ k < 0xFEA0 → Cells.read m1 k = Cells.read m2 k) →
    p.step m1 = p.step m2

/-! OAM DMA and the serial port. -/

/-- The byte an OAM DMA copies from an address (rule R231): WRAM from 0xE000 up; below it the boot ROM where it is
mapped, a NoMBC cartridge's byte (0xFF where it has no RAM), VRAM and WRAM, blocked by nothing. -/
def dmaByte (s : State) (n : Nat) : Byte :=
  if 0xE000 ≤ n then s.byteAt (0xC000 + (n - 0xE000) % 0x2000)
  else if n < 0x100 ∧ s.bootMapped = true then s.params.bootRom.getD n (Config.bootRom n)
  else if 0xA000 ≤ n ∧ n < 0xC000 ∧ s.cart = .noMbc false then 0xFF#8
  else s.byteAt n

/-- The OAM DMA (rules R125, R230, R231): a write of v to 0xFF46 copies nothing in its own M-cycle; each of the 160
M-cycles after it copies one byte from v times 256 on into OAM, in order, and nothing else of memory changes; the
transfer is over at the end of the last one. The source is one whose bytes stand in memory: a NoMBC cartridge
(assumption log 3), VRAM or WRAM. -/
def Obligations.DmaTransfer : Prop :=
  ∀ (v : Byte) (n : Nat) (s : State), s.dma.active = false → n ≤ 160 →
    (∃ ram, s.cart = .noMbc ram) ∨ 0x80 ≤ v.toNat ∧ v.toNat < 0xA0 ∨ 0xC0 ≤ v.toNat →
    let t := State.mCycles n (s.memWrite 0xFF46#16 v)
    (∀ i, i < n → t.byteAt (0xFE00 + i) = dmaByte s (256 * v.toNat + i)) ∧
    (∀ k, ¬(0xFE00 ≤ k ∧ k < 0xFE00 + n) → t.byteAt k = s.byteAt k) ∧
    t.dma.active = decide (n < 160) ∧ t.dma.reg = v ∧ t.dma.idx = n

/-- A serial transfer under the internal clock (rule R871): the write of SC with bits 7 and 0 set gives SB to the host;
for 1024 M-cycles SB stands and SC[7] reads 1; at their end SB is SERIAL_IN and SC[7] is 0, and IF[3] is set. With
bit 0 clear the transfer never completes and nothing is given to the host; that such a write also ends a transfer under
way is the model's choice (assumption log 8). -/
def Obligations.SerialTransfer : Prop :=
  ∀ (v : Byte) (n : Nat) (s : State), s.dma.active = false →
    let t := State.mCycles n (s.busWrite 0xFF02#16 v)
    (v.getLsbD 7 = true → v.getLsbD 0 = true →
      t.serial.out = s.serial.out ++ [s.serial.sb] ∧ t.serial.internal = true ∧
      (n < 1024 → t.serial.sb = s.serial.sb ∧ t.serial.start = true) ∧
      (n = 1024 → t.serial.sb = s.serial.input ∧ t.serial.start = false ∧
        t.irq.ifr.getLsbD 3 = true)) ∧
    (v.getLsbD 0 = false →
      t.serial = { s.serial with start := v.getLsbD 7, internal := false, countdown := 0 })

/-! Reset, and the machine as a whole. -/

/-- The byte RAM_INIT gives an address: the last one listed for it, 0 where none is. -/
def ramInitByte (cells : List Host.Cell) (k : Nat) : Byte :=
  cells.foldl (fun v x => if x.1 = k then x.2 else v) 0x00#8

/-- A reset, from any state (rules R900 to R904, R911): every register as it reads, VRAM and OAM zero, WRAM and HRAM
the RAM_INIT drawn for this reset, whatever an earlier one drew, the other parameters and the cartridge's bytes kept,
the run bits clear. The host's reset is this one. -/
def Obligations.ResetValues : Prop :=
  ∀ (fast : Bool) (ram : List Host.Cell) (s : State),
    let t := s.resetFrom fast ram
    let pick (fb po : Byte) : Byte := if fast then fb else po
    t.cpu.af = (if fast then 0x01B0#16 else 0x0000#16) ∧
    t.cpu.bc = (if fast then 0x0013#16 else 0x0000#16) ∧
    t.cpu.de = (if fast then 0x00D8#16 else 0x0000#16) ∧
    t.cpu.hl = (if fast then 0x014D#16 else 0x0000#16) ∧
    t.cpu.sp = (if fast then 0xFFFE#16 else 0x0000#16) ∧
    t.cpu.pc = (if fast then 0x0100#16 else 0x0000#16) ∧
    t.cpu.ime = false ∧ t.cpu.imePending = false ∧ t.cpu.halted = false ∧ t.cpu.stopped = false ∧
    t.cpu.haltBug = false ∧ t.cpu.locked = false ∧
    (∀ x ∈ [(0xFF01#16, 0x00#8, 0x00#8), (0xFF02#16, 0x7E#8, 0x7E#8),
        (0xFF04#16, s.params.fastbootDivCounter.hi, 0x00#8), (0xFF05#16, 0x00#8, 0x00#8),
        (0xFF06#16, 0x00#8, 0x00#8), (0xFF07#16, 0xF8#8, 0xF8#8), (0xFF0F#16, 0xE1#8, 0xE0#8),
        (0xFF40#16, 0x91#8, 0x00#8), (0xFF42#16, 0x00#8, 0x00#8), (0xFF43#16, 0x00#8, 0x00#8),
        (0xFF45#16, 0x00#8, 0x00#8), (0xFF46#16, 0xFF#8, 0x00#8), (0xFF47#16, 0xFC#8, 0x00#8),
        (0xFF48#16, s.params.obpFastboot, 0x00#8), (0xFF49#16, s.params.obpFastboot, 0x00#8),
        (0xFF4A#16, 0x00#8, 0x00#8), (0xFF4B#16, 0x00#8, 0x00#8), (0xFFFF#16, 0xE0#8, 0xE0#8)],
      (t.busRead x.1).1 = pick x.2.1 x.2.2) ∧
    (s.joypad.input = 0x00#8 → (t.busRead 0xFF00#16).1 = 0xCF#8) ∧
    (s.params.fastbootLine = 0 → s.params.fastbootDot = 0 → s.params.fastbootMode = .oamScan →
      (t.busRead 0xFF41#16).1 = pick 0x86#8 0x84#8 ∧ (t.busRead 0xFF44#16).1 = 0x00#8) ∧
    (∀ k, 0x8000 ≤ k ∧ k < 0xA000 ∨ 0xFE00 ≤ k ∧ k < 0xFEA0 → t.byteAt k = 0x00#8) ∧
    (∀ k, 0xC000 ≤ k ∧ k < 0xE000 ∨ 0xFF80 ≤ k ∧ k < 0xFFFF →
      t.byteAt k = ramInitByte ram k) ∧
    t.params = { s.params with ramInit := ram } ∧ (HostInput.reset fast ram).apply s = t ∧
    (∀ k, k < 0x8000 ∨ 0xA000 ≤ k ∧ k < 0xC000 → t.byteAt k = s.byteAt k) ∧
    t.dma.active = false ∧ t.bootMapped = !fast ∧ t.fastBoot = fast ∧
    t.timer.reload = 0 ∧ t.timer.tsig = false ∧ t.serial.countdown = 0 ∧
    t.ppu.line = (if fast then s.params.fastbootLine else 0) ∧
    t.ppu.dot = (if fast then s.params.fastbootDot else 0) ∧
    t.ppu.mode = (if fast then s.params.fastbootMode else .hblank) ∧
    t.ppu.wline = 0 ∧ t.ppu.wtrig = false ∧ t.ppu.sprites = [] ∧ t.ppu.bgq = [] ∧ t.ppu.spq = [] ∧
    t.ppu.statline = false ∧ t.ppu.skipframe = false ∧ t.ppu.fb = []

/-- The invariant holds after a reset (rules R105, R106, R124, R125, R127): at `State.reset`, and after a reset of any
state whose memory is in its canonical form and whose parameters are valid, for every RAM_INIT drawn. -/
def Obligations.InvariantAtReset : Prop :=
  State.reset.Inv ∧
  ∀ (fast : Bool) (ram : List Host.Cell) (s : State),
    Memory.Inv s.mem → Params.Valid s.params → (s.resetFrom fast ram).Inv

/-- The invariant is kept by every step: the low four bits of F are zero, a LOCKED CPU stands at an illegal byte
(by the model's latches, assumption log 6), memory is in its canonical form with entries only where there is storage, the PPU's position, mode, lists and FIFOs
stay within their bounds (mode 0 no earlier than dot 252), a running DMA has bytes left and starts at a page, and
the reload delay and the serial countdown stay in their ranges, and the countdown runs only with both bits of SC
set. That last clause rests on the model's choice that a write of SC which starts no transfer ends a running one
(assumption log 8), and the sprite FIFO's bound on its dropping a sprite pixel past the 16th slot (assumption
log 9). -/
def Obligations.InvariantKept : Prop :=
  ∀ s t : State, s.Inv → step s = .next t → t.Inv

/-- A step takes from 1 to 11 M-cycles, all of whole T-cycles in fours (rules R6, R905, R941): at most the six of the
longest instruction and the five of a dispatch after it. That the dispatch falls in its instruction's step is the
model's choice (assumption log 7): rule R906 makes it a step of its own, the longest step being 24 T. -/
def Obligations.StepTakesTime : Prop :=
  ∀ s t : State, s.hostInputs = [] → step s = .next t →
    ∃ k, 1 ≤ k ∧ k ≤ 11 ∧ t.clock = s.clock + 4 * k

/-- ROM is never changed (rules R241, R253): with a NoMBC cartridge, no step changes a byte below 0x8000, whatever the
instruction, an interrupt's pushes, a DMA or the host do, and the cartridge stays. That the ROM is memory below 0x8000
and a NoMBC cartridge ignores writes there is the model's choice (assumption log 3). -/
def Obligations.RomNeverChanges : Prop :=
  ∀ (s t : State) (ram : Bool), s.cart = .noMbc ram → step s = .next t →
    t.cart = s.cart ∧ ∀ k, k < 0x8000 → t.byteAt k = s.byteAt k
end

