-- ==== Sys2Proof/Laws/Memory.lean ====
section
/-! SUPPORT. The laws of the sparse store: a read after a write, and the canonical form. -/

namespace Sys2Proof.Machine

variable {w : Nat}

@[simp] theorem Cells.read_nil (a : Nat) : Cells.read ([] : Cells w) a = 0#w := rfl

theorem Cells.read_erase_same (m : Cells w) (a : Nat) : Cells.read (Cells.erase m a) a = 0#w := by
  induction m with
  | nil => rfl
  | cons e m ih =>
    by_cases h : e.1 = a
    · simp [Cells.erase, h, ih]
    · simp [Cells.erase, Cells.read, h, ih]

theorem Cells.read_erase_other (m : Cells w) {a k : Nat} (h : k ≠ a) :
    Cells.read (Cells.erase m a) k = Cells.read m k := by
  induction m with
  | nil => rfl
  | cons e m ih =>
    by_cases h1 : e.1 = a
    · have h2 : e.1 ≠ k := by omega
      simp [Cells.erase, Cells.read, h1, ih, show ¬a = k by omega]
    · simp only [Cells.erase, if_neg h1, Cells.read, ih]

theorem Cells.read_insert_same (m : Cells w) (a : Nat) (x : BitVec w) :
    Cells.read (Cells.insert m a x) a = x := by
  induction m with
  | nil => simp [Cells.insert, Cells.read]
  | cons e m ih =>
    unfold Cells.insert
    split
    · have : e.1 ≠ a := by omega
      simp [Cells.read, this, ih]
    · split <;> simp [Cells.read]

theorem Cells.read_insert_other (m : Cells w) {a k : Nat} (x : BitVec w) (h : k ≠ a) :
    Cells.read (Cells.insert m a x) k = Cells.read m k := by
  induction m with
  | nil => simp [Cells.insert, Cells.read, Ne.symm h, Cells.unlisted]
  | cons e m ih =>
    unfold Cells.insert
    split
    · simp only [Cells.read, ih]
    · split
      · simp [Cells.read, Ne.symm h, show e.1 ≠ k by omega]
      · simp [Cells.read, Ne.symm h]

/-- A read of the key a write named gives the value written. -/
@[simp] theorem Cells.read_write_same (m : Cells w) (a : Nat) (x : BitVec w) :
    Cells.read (Cells.write m a x) a = x := by
  unfold Cells.write
  split
  · rename_i h
    rw [Cells.read_erase_same, h, Cells.unlisted]
  · exact Cells.read_insert_same m a x

/-- A write leaves every other key alone. -/
theorem Cells.read_write_other (m : Cells w) {a k : Nat} (x : BitVec w) (h : k ≠ a) :
    Cells.read (Cells.write m a x) k = Cells.read m k := by
  unfold Cells.write
  split
  · exact Cells.read_erase_other m h
  · exact Cells.read_insert_other m x h

/-! The canonical form. -/

theorem Cells.wfFrom_cons (lo : Option Nat) (k : Nat) (v : BitVec w) (m : Cells w) :
    Cells.wfFrom lo ((k, v) :: m) = true ↔
      (∀ l, lo = some l → l < k) ∧ v ≠ 0#w ∧ Cells.wfFrom (some k) m = true := by
  cases lo <;> by_cases hv : v = 0#w <;> simp [Cells.wfFrom, Cells.unlisted, hv]

/-- A store that is canonical from a bound is canonical from any smaller one. -/
theorem Cells.wfFrom_weaken {k : Nat} {lo : Option Nat} {m : Cells w}
    (hl : ∀ l, lo = some l → l ≤ k) (h : Cells.wfFrom (some k) m = true) :
    Cells.wfFrom lo m = true := by
  cases m with
  | nil => rfl
  | cons e m =>
    rw [Cells.wfFrom_cons] at h ⊢
    refine ⟨fun l hl' => ?_, h.2⟩
    exact Nat.lt_of_le_of_lt (hl l hl') (h.1 k rfl)

theorem Cells.wfFrom_erase {lo : Option Nat} {m : Cells w} (a : Nat)
    (h : Cells.wfFrom lo m = true) : Cells.wfFrom lo (Cells.erase m a) = true := by
  induction m generalizing lo with
  | nil => rfl
  | cons e m ih =>
    rw [Cells.wfFrom_cons] at h
    unfold Cells.erase
    split
    · exact Cells.wfFrom_weaken (fun l hl => Nat.le_of_lt (h.1 l hl)) (ih h.2.2)
    · rw [Cells.wfFrom_cons]
      exact ⟨h.1, h.2.1, ih h.2.2⟩

theorem Cells.wfFrom_insert {lo : Option Nat} {m : Cells w} {a : Nat} {x : BitVec w}
    (hx : x ≠ 0#w) (ha : ∀ l, lo = some l → l < a) (h : Cells.wfFrom lo m = true) :
    Cells.wfFrom lo (Cells.insert m a x) = true := by
  induction m generalizing lo with
  | nil =>
    rw [Cells.insert, Cells.wfFrom_cons]
    exact ⟨ha, hx, rfl⟩
  | cons e m ih =>
    rw [Cells.wfFrom_cons] at h
    unfold Cells.insert
    split
    · rename_i hlt
      rw [Cells.wfFrom_cons]
      exact ⟨h.1, h.2.1, ih (fun l hl => by cases hl; exact hlt) h.2.2⟩
    · split
      · rename_i heq
        rw [Cells.wfFrom_cons]
        exact ⟨ha, hx, heq ▸ h.2.2⟩
      · rename_i hlt heq
        rw [Cells.wfFrom_cons, Cells.wfFrom_cons]
        exact ⟨ha, hx, fun l hl => by cases hl; omega, h.2⟩

/-- A write keeps the canonical form. -/
theorem Cells.wf_write {m : Cells w} (a : Nat) (x : BitVec w) (h : Cells.wf m = true) :
    Cells.wf (Cells.write m a x) = true := by
  unfold Cells.write
  split
  · exact Cells.wfFrom_erase a h
  · exact Cells.wfFrom_insert (by assumption) (by simp) h

theorem Cells.wfFrom_restrict (keep : Nat → Bool) {lo : Option Nat} {m : Cells w}
    (h : Cells.wfFrom lo m = true) : Cells.wfFrom lo (Cells.restrict keep m) = true := by
  induction m generalizing lo with
  | nil => rfl
  | cons e m ih =>
    rw [Cells.wfFrom_cons] at h
    unfold Cells.restrict
    split
    · rw [Cells.wfFrom_cons]
      exact ⟨h.1, h.2.1, ih h.2.2⟩
    · exact Cells.wfFrom_weaken (fun l hl => Nat.le_of_lt (h.1 l hl)) (ih h.2.2)

/-- A restriction keeps the canonical form. -/
theorem Cells.wf_restrict (keep : Nat → Bool) {m : Cells w} (h : Cells.wf m = true) :
    Cells.wf (Cells.restrict keep m) = true := Cells.wfFrom_restrict keep h

/-- An overlay keeps the canonical form. -/
theorem Cells.wf_overlay (keep : Nat → Bool) (r : Cells w) {m : Cells w} (h : Cells.wf m = true) :
    Cells.wf (Cells.overlay keep m r) = true := by
  induction r generalizing m with
  | nil => exact h
  | cons e r ih =>
    unfold Cells.overlay
    split
    · exact ih (Cells.wf_write _ _ h)
    · exact ih h

/-! Where the entries stand. -/

theorem Cells.keysIn_iff (ok : Nat → Bool) (m : Cells w) :
    Cells.keysIn ok m = true ↔ ∀ e ∈ m, ok e.1 = true := by
  simp [Cells.keysIn]

theorem Cells.mem_erase {m : Cells w} {a : Nat} {e : Nat × BitVec w} (h : e ∈ Cells.erase m a) :
    e ∈ m := by
  induction m with
  | nil => exact h
  | cons f m ih =>
    unfold Cells.erase at h
    split at h
    · exact List.mem_cons_of_mem _ (ih h)
    · rcases List.mem_cons.mp h with h | h
      · exact h ▸ List.mem_cons_self
      · exact List.mem_cons_of_mem _ (ih h)

theorem Cells.mem_insert {m : Cells w} {a : Nat} {x : BitVec w} {e : Nat × BitVec w}
    (h : e ∈ Cells.insert m a x) : e = (a, x) ∨ e ∈ m := by
  induction m with
  | nil => simpa [Cells.insert] using h
  | cons f m ih =>
    unfold Cells.insert at h
    split at h
    · rcases List.mem_cons.mp h with h | h
      · exact .inr (h ▸ List.mem_cons_self)
      · exact (ih h).imp id (List.mem_cons_of_mem _)
    · split at h
      · rcases List.mem_cons.mp h with h | h
        · exact .inl h
        · exact .inr (List.mem_cons_of_mem _ h)
      · exact (List.mem_cons.mp h)

/-- A write at a key that passes keeps every key passing. -/
theorem Cells.keysIn_write {ok : Nat → Bool} {m : Cells w} {a : Nat} (x : BitVec w)
    (ha : ok a = true) (h : Cells.keysIn ok m = true) : Cells.keysIn ok (Cells.write m a x) = true := by
  rw [Cells.keysIn_iff] at h ⊢
  intro e he
  unfold Cells.write at he
  split at he
  · exact h e (Cells.mem_erase he)
  · rcases Cells.mem_insert he with he | he
    · exact he ▸ ha
    · exact h e he

/-- The entries of an overlay stand where those of the store or those the test lets in do. -/
theorem Cells.keysIn_overlay {ok keep : Nat → Bool} (hk : ∀ n, keep n = true → ok n = true)
    (r : Cells w) {m : Cells w} (h : Cells.keysIn ok m = true) :
    Cells.keysIn ok (Cells.overlay keep m r) = true := by
  induction r generalizing m with
  | nil => exact h
  | cons e r ih =>
    unfold Cells.overlay
    split
    · exact ih (Cells.keysIn_write _ (hk _ (by assumption)) h)
    · exact ih h

/-- The entries of a restriction are entries of the store. -/
theorem Cells.keysIn_restrict {ok : Nat → Bool} (keep : Nat → Bool) {m : Cells w}
    (h : Cells.keysIn ok m = true) : Cells.keysIn ok (Cells.restrict keep m) = true := by
  rw [Cells.keysIn_iff] at h ⊢
  intro e he
  induction m with
  | nil => exact absurd he (by simp [Cells.restrict])
  | cons f m ih =>
    have hm : ∀ e ∈ m, ok e.1 = true := fun e he => h e (List.mem_cons_of_mem _ he)
    unfold Cells.restrict at he
    split at he
    · rcases List.mem_cons.mp he with he | he
      · exact h e (he ▸ List.mem_cons_self)
      · exact ih hm he
    · exact ih hm he

/-- The restriction of a store reads 0 where the test fails and as the store where it passes. -/
theorem Cells.read_restrict (keep : Nat → Bool) (m : Cells w) (a : Nat) :
    Cells.read (Cells.restrict keep m) a = if keep a then Cells.read m a else 0#w := by
  induction m with
  | nil => simp [Cells.restrict]
  | cons e m ih =>
    unfold Cells.restrict
    by_cases hk : keep e.1 = true
    · rw [if_pos hk]
      by_cases he : e.1 = a
      · subst he; simp [Cells.read, hk]
      · simp [Cells.read, he, ih]
    · rw [if_neg hk, ih]
      by_cases he : e.1 = a
      · subst he; simp [hk]
      · simp [Cells.read, he]

end Sys2Proof.Machine
end

