-- ==== Sys2Proof/Laws/State.lean ====
section
/-! SUPPORT. What each update of the state leaves alone, one lemma a field, so that no proof unfolds a
record update; and the laws of the register accessors. -/

namespace Sys2Proof.Machine

/-! `State.onCpu`. -/

@[simp] theorem State.onCpu_cpu (f : Cpu → Cpu) (s : State) : (s.onCpu f).cpu = f s.cpu := rfl
@[simp] theorem State.onCpu_irq (f : Cpu → Cpu) (s : State) : (s.onCpu f).irq = s.irq := rfl
@[simp] theorem State.onCpu_timer (f : Cpu → Cpu) (s : State) : (s.onCpu f).timer = s.timer := rfl
@[simp] theorem State.onCpu_ppu (f : Cpu → Cpu) (s : State) : (s.onCpu f).ppu = s.ppu := rfl
@[simp] theorem State.onCpu_dma (f : Cpu → Cpu) (s : State) : (s.onCpu f).dma = s.dma := rfl
@[simp] theorem State.onCpu_joypad (f : Cpu → Cpu) (s : State) : (s.onCpu f).joypad = s.joypad := rfl
@[simp] theorem State.onCpu_serial (f : Cpu → Cpu) (s : State) : (s.onCpu f).serial = s.serial := rfl
@[simp] theorem State.onCpu_mem (f : Cpu → Cpu) (s : State) : (s.onCpu f).mem = s.mem := rfl
@[simp] theorem State.onCpu_cart (f : Cpu → Cpu) (s : State) : (s.onCpu f).cart = s.cart := rfl
@[simp] theorem State.onCpu_bootMapped (f : Cpu → Cpu) (s : State) : (s.onCpu f).bootMapped = s.bootMapped := rfl
@[simp] theorem State.onCpu_fastBoot (f : Cpu → Cpu) (s : State) : (s.onCpu f).fastBoot = s.fastBoot := rfl
@[simp] theorem State.onCpu_params (f : Cpu → Cpu) (s : State) : (s.onCpu f).params = s.params := rfl
@[simp] theorem State.onCpu_hostInputs (f : Cpu → Cpu) (s : State) : (s.onCpu f).hostInputs = s.hostInputs := rfl
@[simp] theorem State.onCpu_clock (f : Cpu → Cpu) (s : State) : (s.onCpu f).clock = s.clock := rfl
@[simp] theorem State.onCpu_onCpu (f g : Cpu → Cpu) (s : State) :
    (s.onCpu f).onCpu g = s.onCpu (fun c => g (f c)) := rfl
@[simp] theorem State.onCpu_byteAt (f : Cpu → Cpu) (k : Nat) (s : State) :
    (s.onCpu f).byteAt k = s.byteAt k := rfl
@[simp] theorem State.onCpu_settings (f : Cpu → Cpu) (s : State) :
    (s.onCpu f).settings = s.settings := rfl
@[simp] theorem State.onCpu_quiet (f : Cpu → Cpu) (s : State) : (s.onCpu f).quiet = s.quiet := rfl

/-! `State.setPpu`. -/

@[simp] theorem State.setPpu_cpu (r : Ppu × Bool) (s : State) : (s.setPpu r).cpu = s.cpu := rfl
@[simp] theorem State.setPpu_timer (r : Ppu × Bool) (s : State) : (s.setPpu r).timer = s.timer := rfl
@[simp] theorem State.setPpu_dma (r : Ppu × Bool) (s : State) : (s.setPpu r).dma = s.dma := rfl
@[simp] theorem State.setPpu_joypad (r : Ppu × Bool) (s : State) : (s.setPpu r).joypad = s.joypad := rfl
@[simp] theorem State.setPpu_serial (r : Ppu × Bool) (s : State) : (s.setPpu r).serial = s.serial := rfl
@[simp] theorem State.setPpu_mem (r : Ppu × Bool) (s : State) : (s.setPpu r).mem = s.mem := rfl
@[simp] theorem State.setPpu_cart (r : Ppu × Bool) (s : State) : (s.setPpu r).cart = s.cart := rfl
@[simp] theorem State.setPpu_bootMapped (r : Ppu × Bool) (s : State) : (s.setPpu r).bootMapped = s.bootMapped := rfl
@[simp] theorem State.setPpu_fastBoot (r : Ppu × Bool) (s : State) : (s.setPpu r).fastBoot = s.fastBoot := rfl
@[simp] theorem State.setPpu_params (r : Ppu × Bool) (s : State) : (s.setPpu r).params = s.params := rfl
@[simp] theorem State.setPpu_hostInputs (r : Ppu × Bool) (s : State) : (s.setPpu r).hostInputs = s.hostInputs := rfl
@[simp] theorem State.setPpu_clock (r : Ppu × Bool) (s : State) : (s.setPpu r).clock = s.clock := rfl
@[simp] theorem State.setPpu_ppu (r : Ppu × Bool) (s : State) : (s.setPpu r).ppu = r.1 := rfl
@[simp] theorem State.setPpu_irq (r : Ppu × Bool) (s : State) :
    (s.setPpu r).irq = s.irq.request srcStat r.2 := rfl

/-! `State.setJoypad`. -/

@[simp] theorem State.setJoypad_cpu (r : Joypad × Bool) (s : State) : (s.setJoypad r).cpu = s.cpu := rfl
@[simp] theorem State.setJoypad_timer (r : Joypad × Bool) (s : State) : (s.setJoypad r).timer = s.timer := rfl
@[simp] theorem State.setJoypad_ppu (r : Joypad × Bool) (s : State) : (s.setJoypad r).ppu = s.ppu := rfl
@[simp] theorem State.setJoypad_dma (r : Joypad × Bool) (s : State) : (s.setJoypad r).dma = s.dma := rfl
@[simp] theorem State.setJoypad_serial (r : Joypad × Bool) (s : State) : (s.setJoypad r).serial = s.serial := rfl
@[simp] theorem State.setJoypad_mem (r : Joypad × Bool) (s : State) : (s.setJoypad r).mem = s.mem := rfl
@[simp] theorem State.setJoypad_cart (r : Joypad × Bool) (s : State) : (s.setJoypad r).cart = s.cart := rfl
@[simp] theorem State.setJoypad_bootMapped (r : Joypad × Bool) (s : State) : (s.setJoypad r).bootMapped = s.bootMapped := rfl
@[simp] theorem State.setJoypad_fastBoot (r : Joypad × Bool) (s : State) : (s.setJoypad r).fastBoot = s.fastBoot := rfl
@[simp] theorem State.setJoypad_params (r : Joypad × Bool) (s : State) : (s.setJoypad r).params = s.params := rfl
@[simp] theorem State.setJoypad_hostInputs (r : Joypad × Bool) (s : State) : (s.setJoypad r).hostInputs = s.hostInputs := rfl
@[simp] theorem State.setJoypad_clock (r : Joypad × Bool) (s : State) : (s.setJoypad r).clock = s.clock := rfl
@[simp] theorem State.setJoypad_joypad (r : Joypad × Bool) (s : State) : (s.setJoypad r).joypad = r.1 := rfl
@[simp] theorem State.setJoypad_irq (r : Joypad × Bool) (s : State) :
    (s.setJoypad r).irq = s.irq.request srcJoypad r.2 := rfl

/-! `State.acknowledge`. -/

@[simp] theorem State.acknowledge_timer (i : Nat) (s : State) : (s.acknowledge i).timer = s.timer := rfl
@[simp] theorem State.acknowledge_ppu (i : Nat) (s : State) : (s.acknowledge i).ppu = s.ppu := rfl
@[simp] theorem State.acknowledge_dma (i : Nat) (s : State) : (s.acknowledge i).dma = s.dma := rfl
@[simp] theorem State.acknowledge_joypad (i : Nat) (s : State) : (s.acknowledge i).joypad = s.joypad := rfl
@[simp] theorem State.acknowledge_serial (i : Nat) (s : State) : (s.acknowledge i).serial = s.serial := rfl
@[simp] theorem State.acknowledge_mem (i : Nat) (s : State) : (s.acknowledge i).mem = s.mem := rfl
@[simp] theorem State.acknowledge_cart (i : Nat) (s : State) : (s.acknowledge i).cart = s.cart := rfl
@[simp] theorem State.acknowledge_bootMapped (i : Nat) (s : State) : (s.acknowledge i).bootMapped = s.bootMapped := rfl
@[simp] theorem State.acknowledge_fastBoot (i : Nat) (s : State) : (s.acknowledge i).fastBoot = s.fastBoot := rfl
@[simp] theorem State.acknowledge_params (i : Nat) (s : State) : (s.acknowledge i).params = s.params := rfl
@[simp] theorem State.acknowledge_hostInputs (i : Nat) (s : State) : (s.acknowledge i).hostInputs = s.hostInputs := rfl
@[simp] theorem State.acknowledge_clock (i : Nat) (s : State) : (s.acknowledge i).clock = s.clock := rfl
@[simp] theorem State.acknowledge_irq (i : Nat) (s : State) :
    (s.acknowledge i).irq = s.irq.acknowledge i := rfl

/-! `Cpu.set`. -/

@[simp] theorem Cpu.set_f (r : Reg8) (v : Byte) (k : Cpu) : (k.set r v).f = k.f := by cases r <;> rfl
@[simp] theorem Cpu.set_sp (r : Reg8) (v : Byte) (k : Cpu) : (k.set r v).sp = k.sp := by cases r <;> rfl
@[simp] theorem Cpu.set_pc (r : Reg8) (v : Byte) (k : Cpu) : (k.set r v).pc = k.pc := by cases r <;> rfl
@[simp] theorem Cpu.set_ime (r : Reg8) (v : Byte) (k : Cpu) : (k.set r v).ime = k.ime := by cases r <;> rfl
@[simp] theorem Cpu.set_imePending (r : Reg8) (v : Byte) (k : Cpu) : (k.set r v).imePending = k.imePending := by cases r <;> rfl
@[simp] theorem Cpu.set_halted (r : Reg8) (v : Byte) (k : Cpu) : (k.set r v).halted = k.halted := by cases r <;> rfl
@[simp] theorem Cpu.set_stopped (r : Reg8) (v : Byte) (k : Cpu) : (k.set r v).stopped = k.stopped := by cases r <;> rfl
@[simp] theorem Cpu.set_haltBug (r : Reg8) (v : Byte) (k : Cpu) : (k.set r v).haltBug = k.haltBug := by cases r <;> rfl
@[simp] theorem Cpu.set_locked (r : Reg8) (v : Byte) (k : Cpu) : (k.set r v).locked = k.locked := by cases r <;> rfl
@[simp] theorem Cpu.set_opcodeAddr (r : Reg8) (v : Byte) (k : Cpu) : (k.set r v).opcodeAddr = k.opcodeAddr := by cases r <;> rfl
@[simp] theorem Cpu.set_illegalByte (r : Reg8) (v : Byte) (k : Cpu) : (k.set r v).illegalByte = k.illegalByte := by cases r <;> rfl

/-! `Cpu.setHl`. -/

@[simp] theorem Cpu.setHl_a (v : Word) (k : Cpu) : (k.setHl v).a = k.a := rfl
@[simp] theorem Cpu.setHl_f (v : Word) (k : Cpu) : (k.setHl v).f = k.f := rfl
@[simp] theorem Cpu.setHl_b (v : Word) (k : Cpu) : (k.setHl v).b = k.b := rfl
@[simp] theorem Cpu.setHl_c (v : Word) (k : Cpu) : (k.setHl v).c = k.c := rfl
@[simp] theorem Cpu.setHl_d (v : Word) (k : Cpu) : (k.setHl v).d = k.d := rfl
@[simp] theorem Cpu.setHl_e (v : Word) (k : Cpu) : (k.setHl v).e = k.e := rfl
@[simp] theorem Cpu.setHl_sp (v : Word) (k : Cpu) : (k.setHl v).sp = k.sp := rfl
@[simp] theorem Cpu.setHl_pc (v : Word) (k : Cpu) : (k.setHl v).pc = k.pc := rfl
@[simp] theorem Cpu.setHl_ime (v : Word) (k : Cpu) : (k.setHl v).ime = k.ime := rfl
@[simp] theorem Cpu.setHl_imePending (v : Word) (k : Cpu) : (k.setHl v).imePending = k.imePending := rfl
@[simp] theorem Cpu.setHl_halted (v : Word) (k : Cpu) : (k.setHl v).halted = k.halted := rfl
@[simp] theorem Cpu.setHl_stopped (v : Word) (k : Cpu) : (k.setHl v).stopped = k.stopped := rfl
@[simp] theorem Cpu.setHl_haltBug (v : Word) (k : Cpu) : (k.setHl v).haltBug = k.haltBug := rfl
@[simp] theorem Cpu.setHl_locked (v : Word) (k : Cpu) : (k.setHl v).locked = k.locked := rfl
@[simp] theorem Cpu.setHl_opcodeAddr (v : Word) (k : Cpu) : (k.setHl v).opcodeAddr = k.opcodeAddr := rfl
@[simp] theorem Cpu.setHl_illegalByte (v : Word) (k : Cpu) : (k.setHl v).illegalByte = k.illegalByte := rfl

/-! `Cpu.setPair`. -/

@[simp] theorem Cpu.setPair_a (r : Pair) (v : Word) (k : Cpu) : (k.setPair r v).a = k.a := by cases r <;> rfl
@[simp] theorem Cpu.setPair_f (r : Pair) (v : Word) (k : Cpu) : (k.setPair r v).f = k.f := by cases r <;> rfl
@[simp] theorem Cpu.setPair_pc (r : Pair) (v : Word) (k : Cpu) : (k.setPair r v).pc = k.pc := by cases r <;> rfl
@[simp] theorem Cpu.setPair_ime (r : Pair) (v : Word) (k : Cpu) : (k.setPair r v).ime = k.ime := by cases r <;> rfl
@[simp] theorem Cpu.setPair_imePending (r : Pair) (v : Word) (k : Cpu) : (k.setPair r v).imePending = k.imePending := by cases r <;> rfl
@[simp] theorem Cpu.setPair_halted (r : Pair) (v : Word) (k : Cpu) : (k.setPair r v).halted = k.halted := by cases r <;> rfl
@[simp] theorem Cpu.setPair_stopped (r : Pair) (v : Word) (k : Cpu) : (k.setPair r v).stopped = k.stopped := by cases r <;> rfl
@[simp] theorem Cpu.setPair_haltBug (r : Pair) (v : Word) (k : Cpu) : (k.setPair r v).haltBug = k.haltBug := by cases r <;> rfl
@[simp] theorem Cpu.setPair_locked (r : Pair) (v : Word) (k : Cpu) : (k.setPair r v).locked = k.locked := by cases r <;> rfl
@[simp] theorem Cpu.setPair_opcodeAddr (r : Pair) (v : Word) (k : Cpu) : (k.setPair r v).opcodeAddr = k.opcodeAddr := by cases r <;> rfl
@[simp] theorem Cpu.setPair_illegalByte (r : Pair) (v : Word) (k : Cpu) : (k.setPair r v).illegalByte = k.illegalByte := by cases r <;> rfl

/-! `Cpu.setStack`. -/

@[simp] theorem Cpu.setStack_sp (r : StackPair) (v : Word) (k : Cpu) : (k.setStack r v).sp = k.sp := by cases r <;> rfl
@[simp] theorem Cpu.setStack_pc (r : StackPair) (v : Word) (k : Cpu) : (k.setStack r v).pc = k.pc := by cases r <;> rfl
@[simp] theorem Cpu.setStack_ime (r : StackPair) (v : Word) (k : Cpu) : (k.setStack r v).ime = k.ime := by cases r <;> rfl
@[simp] theorem Cpu.setStack_imePending (r : StackPair) (v : Word) (k : Cpu) : (k.setStack r v).imePending = k.imePending := by cases r <;> rfl
@[simp] theorem Cpu.setStack_halted (r : StackPair) (v : Word) (k : Cpu) : (k.setStack r v).halted = k.halted := by cases r <;> rfl
@[simp] theorem Cpu.setStack_stopped (r : StackPair) (v : Word) (k : Cpu) : (k.setStack r v).stopped = k.stopped := by cases r <;> rfl
@[simp] theorem Cpu.setStack_haltBug (r : StackPair) (v : Word) (k : Cpu) : (k.setStack r v).haltBug = k.haltBug := by cases r <;> rfl
@[simp] theorem Cpu.setStack_locked (r : StackPair) (v : Word) (k : Cpu) : (k.setStack r v).locked = k.locked := by cases r <;> rfl
@[simp] theorem Cpu.setStack_opcodeAddr (r : StackPair) (v : Word) (k : Cpu) : (k.setStack r v).opcodeAddr = k.opcodeAddr := by cases r <;> rfl
@[simp] theorem Cpu.setStack_illegalByte (r : StackPair) (v : Word) (k : Cpu) : (k.setStack r v).illegalByte = k.illegalByte := by cases r <;> rfl

/-! `Cpu.setFlags`. -/

@[simp] theorem Cpu.setFlags_a (z n h cy : Bool) (k : Cpu) : (k.setFlags z n h cy).a = k.a := rfl
@[simp] theorem Cpu.setFlags_b (z n h cy : Bool) (k : Cpu) : (k.setFlags z n h cy).b = k.b := rfl
@[simp] theorem Cpu.setFlags_c (z n h cy : Bool) (k : Cpu) : (k.setFlags z n h cy).c = k.c := rfl
@[simp] theorem Cpu.setFlags_d (z n h cy : Bool) (k : Cpu) : (k.setFlags z n h cy).d = k.d := rfl
@[simp] theorem Cpu.setFlags_e (z n h cy : Bool) (k : Cpu) : (k.setFlags z n h cy).e = k.e := rfl
@[simp] theorem Cpu.setFlags_h (z n h cy : Bool) (k : Cpu) : (k.setFlags z n h cy).h = k.h := rfl
@[simp] theorem Cpu.setFlags_l (z n h cy : Bool) (k : Cpu) : (k.setFlags z n h cy).l = k.l := rfl
@[simp] theorem Cpu.setFlags_sp (z n h cy : Bool) (k : Cpu) : (k.setFlags z n h cy).sp = k.sp := rfl
@[simp] theorem Cpu.setFlags_pc (z n h cy : Bool) (k : Cpu) : (k.setFlags z n h cy).pc = k.pc := rfl
@[simp] theorem Cpu.setFlags_ime (z n h cy : Bool) (k : Cpu) : (k.setFlags z n h cy).ime = k.ime := rfl
@[simp] theorem Cpu.setFlags_imePending (z n h cy : Bool) (k : Cpu) : (k.setFlags z n h cy).imePending = k.imePending := rfl
@[simp] theorem Cpu.setFlags_halted (z n h cy : Bool) (k : Cpu) : (k.setFlags z n h cy).halted = k.halted := rfl
@[simp] theorem Cpu.setFlags_stopped (z n h cy : Bool) (k : Cpu) : (k.setFlags z n h cy).stopped = k.stopped := rfl
@[simp] theorem Cpu.setFlags_haltBug (z n h cy : Bool) (k : Cpu) : (k.setFlags z n h cy).haltBug = k.haltBug := rfl
@[simp] theorem Cpu.setFlags_locked (z n h cy : Bool) (k : Cpu) : (k.setFlags z n h cy).locked = k.locked := rfl
@[simp] theorem Cpu.setFlags_opcodeAddr (z n h cy : Bool) (k : Cpu) : (k.setFlags z n h cy).opcodeAddr = k.opcodeAddr := rfl
@[simp] theorem Cpu.setFlags_illegalByte (z n h cy : Bool) (k : Cpu) : (k.setFlags z n h cy).illegalByte = k.illegalByte := rfl

/-! `Cpu.leaveFlags`. -/

@[simp] theorem Cpu.leaveFlags_a (x : Computed) (k : Cpu) : (k.leaveFlags x).a = k.a := rfl
@[simp] theorem Cpu.leaveFlags_b (x : Computed) (k : Cpu) : (k.leaveFlags x).b = k.b := rfl
@[simp] theorem Cpu.leaveFlags_c (x : Computed) (k : Cpu) : (k.leaveFlags x).c = k.c := rfl
@[simp] theorem Cpu.leaveFlags_d (x : Computed) (k : Cpu) : (k.leaveFlags x).d = k.d := rfl
@[simp] theorem Cpu.leaveFlags_e (x : Computed) (k : Cpu) : (k.leaveFlags x).e = k.e := rfl
@[simp] theorem Cpu.leaveFlags_h (x : Computed) (k : Cpu) : (k.leaveFlags x).h = k.h := rfl
@[simp] theorem Cpu.leaveFlags_l (x : Computed) (k : Cpu) : (k.leaveFlags x).l = k.l := rfl
@[simp] theorem Cpu.leaveFlags_sp (x : Computed) (k : Cpu) : (k.leaveFlags x).sp = k.sp := rfl
@[simp] theorem Cpu.leaveFlags_pc (x : Computed) (k : Cpu) : (k.leaveFlags x).pc = k.pc := rfl
@[simp] theorem Cpu.leaveFlags_ime (x : Computed) (k : Cpu) : (k.leaveFlags x).ime = k.ime := rfl
@[simp] theorem Cpu.leaveFlags_imePending (x : Computed) (k : Cpu) : (k.leaveFlags x).imePending = k.imePending := rfl
@[simp] theorem Cpu.leaveFlags_halted (x : Computed) (k : Cpu) : (k.leaveFlags x).halted = k.halted := rfl
@[simp] theorem Cpu.leaveFlags_stopped (x : Computed) (k : Cpu) : (k.leaveFlags x).stopped = k.stopped := rfl
@[simp] theorem Cpu.leaveFlags_haltBug (x : Computed) (k : Cpu) : (k.leaveFlags x).haltBug = k.haltBug := rfl
@[simp] theorem Cpu.leaveFlags_locked (x : Computed) (k : Cpu) : (k.leaveFlags x).locked = k.locked := rfl
@[simp] theorem Cpu.leaveFlags_opcodeAddr (x : Computed) (k : Cpu) : (k.leaveFlags x).opcodeAddr = k.opcodeAddr := rfl
@[simp] theorem Cpu.leaveFlags_illegalByte (x : Computed) (k : Cpu) : (k.leaveFlags x).illegalByte = k.illegalByte := rfl

/-! `Cpu.nextPc`. -/

@[simp] theorem Cpu.nextPc_a (k : Cpu) : (k.nextPc).a = k.a := rfl
@[simp] theorem Cpu.nextPc_f (k : Cpu) : (k.nextPc).f = k.f := rfl
@[simp] theorem Cpu.nextPc_b (k : Cpu) : (k.nextPc).b = k.b := rfl
@[simp] theorem Cpu.nextPc_c (k : Cpu) : (k.nextPc).c = k.c := rfl
@[simp] theorem Cpu.nextPc_d (k : Cpu) : (k.nextPc).d = k.d := rfl
@[simp] theorem Cpu.nextPc_e (k : Cpu) : (k.nextPc).e = k.e := rfl
@[simp] theorem Cpu.nextPc_h (k : Cpu) : (k.nextPc).h = k.h := rfl
@[simp] theorem Cpu.nextPc_l (k : Cpu) : (k.nextPc).l = k.l := rfl
@[simp] theorem Cpu.nextPc_sp (k : Cpu) : (k.nextPc).sp = k.sp := rfl
@[simp] theorem Cpu.nextPc_ime (k : Cpu) : (k.nextPc).ime = k.ime := rfl
@[simp] theorem Cpu.nextPc_imePending (k : Cpu) : (k.nextPc).imePending = k.imePending := rfl
@[simp] theorem Cpu.nextPc_halted (k : Cpu) : (k.nextPc).halted = k.halted := rfl
@[simp] theorem Cpu.nextPc_stopped (k : Cpu) : (k.nextPc).stopped = k.stopped := rfl
@[simp] theorem Cpu.nextPc_haltBug (k : Cpu) : (k.nextPc).haltBug = k.haltBug := rfl
@[simp] theorem Cpu.nextPc_locked (k : Cpu) : (k.nextPc).locked = k.locked := rfl
@[simp] theorem Cpu.nextPc_opcodeAddr (k : Cpu) : (k.nextPc).opcodeAddr = k.opcodeAddr := rfl
@[simp] theorem Cpu.nextPc_illegalByte (k : Cpu) : (k.nextPc).illegalByte = k.illegalByte := rfl

/-! `Cpu.goto`. -/

@[simp] theorem Cpu.goto_a (t : Word) (k : Cpu) : (k.goto t).a = k.a := rfl
@[simp] theorem Cpu.goto_f (t : Word) (k : Cpu) : (k.goto t).f = k.f := rfl
@[simp] theorem Cpu.goto_b (t : Word) (k : Cpu) : (k.goto t).b = k.b := rfl
@[simp] theorem Cpu.goto_c (t : Word) (k : Cpu) : (k.goto t).c = k.c := rfl
@[simp] theorem Cpu.goto_d (t : Word) (k : Cpu) : (k.goto t).d = k.d := rfl
@[simp] theorem Cpu.goto_e (t : Word) (k : Cpu) : (k.goto t).e = k.e := rfl
@[simp] theorem Cpu.goto_h (t : Word) (k : Cpu) : (k.goto t).h = k.h := rfl
@[simp] theorem Cpu.goto_l (t : Word) (k : Cpu) : (k.goto t).l = k.l := rfl
@[simp] theorem Cpu.goto_sp (t : Word) (k : Cpu) : (k.goto t).sp = k.sp := rfl
@[simp] theorem Cpu.goto_ime (t : Word) (k : Cpu) : (k.goto t).ime = k.ime := rfl
@[simp] theorem Cpu.goto_imePending (t : Word) (k : Cpu) : (k.goto t).imePending = k.imePending := rfl
@[simp] theorem Cpu.goto_halted (t : Word) (k : Cpu) : (k.goto t).halted = k.halted := rfl
@[simp] theorem Cpu.goto_stopped (t : Word) (k : Cpu) : (k.goto t).stopped = k.stopped := rfl
@[simp] theorem Cpu.goto_haltBug (t : Word) (k : Cpu) : (k.goto t).haltBug = k.haltBug := rfl
@[simp] theorem Cpu.goto_locked (t : Word) (k : Cpu) : (k.goto t).locked = k.locked := rfl
@[simp] theorem Cpu.goto_opcodeAddr (t : Word) (k : Cpu) : (k.goto t).opcodeAddr = k.opcodeAddr := rfl
@[simp] theorem Cpu.goto_illegalByte (t : Word) (k : Cpu) : (k.goto t).illegalByte = k.illegalByte := rfl

/-! `Cpu.offsetFlags`. -/

@[simp] theorem Cpu.offsetFlags_a (b : Byte) (k : Cpu) : (k.offsetFlags b).a = k.a := rfl
@[simp] theorem Cpu.offsetFlags_b (b : Byte) (k : Cpu) : (k.offsetFlags b).b = k.b := rfl
@[simp] theorem Cpu.offsetFlags_c (b : Byte) (k : Cpu) : (k.offsetFlags b).c = k.c := rfl
@[simp] theorem Cpu.offsetFlags_d (b : Byte) (k : Cpu) : (k.offsetFlags b).d = k.d := rfl
@[simp] theorem Cpu.offsetFlags_e (b : Byte) (k : Cpu) : (k.offsetFlags b).e = k.e := rfl
@[simp] theorem Cpu.offsetFlags_h (b : Byte) (k : Cpu) : (k.offsetFlags b).h = k.h := rfl
@[simp] theorem Cpu.offsetFlags_l (b : Byte) (k : Cpu) : (k.offsetFlags b).l = k.l := rfl
@[simp] theorem Cpu.offsetFlags_sp (b : Byte) (k : Cpu) : (k.offsetFlags b).sp = k.sp := rfl
@[simp] theorem Cpu.offsetFlags_pc (b : Byte) (k : Cpu) : (k.offsetFlags b).pc = k.pc := rfl
@[simp] theorem Cpu.offsetFlags_ime (b : Byte) (k : Cpu) : (k.offsetFlags b).ime = k.ime := rfl
@[simp] theorem Cpu.offsetFlags_imePending (b : Byte) (k : Cpu) : (k.offsetFlags b).imePending = k.imePending := rfl
@[simp] theorem Cpu.offsetFlags_halted (b : Byte) (k : Cpu) : (k.offsetFlags b).halted = k.halted := rfl
@[simp] theorem Cpu.offsetFlags_stopped (b : Byte) (k : Cpu) : (k.offsetFlags b).stopped = k.stopped := rfl
@[simp] theorem Cpu.offsetFlags_haltBug (b : Byte) (k : Cpu) : (k.offsetFlags b).haltBug = k.haltBug := rfl
@[simp] theorem Cpu.offsetFlags_locked (b : Byte) (k : Cpu) : (k.offsetFlags b).locked = k.locked := rfl
@[simp] theorem Cpu.offsetFlags_opcodeAddr (b : Byte) (k : Cpu) : (k.offsetFlags b).opcodeAddr = k.opcodeAddr := rfl
@[simp] theorem Cpu.offsetFlags_illegalByte (b : Byte) (k : Cpu) : (k.offsetFlags b).illegalByte = k.illegalByte := rfl

/-! `Cpu.addHlFlags`. -/

@[simp] theorem Cpu.addHlFlags_a (v : Word) (k : Cpu) : (k.addHlFlags v).a = k.a := rfl
@[simp] theorem Cpu.addHlFlags_b (v : Word) (k : Cpu) : (k.addHlFlags v).b = k.b := rfl
@[simp] theorem Cpu.addHlFlags_c (v : Word) (k : Cpu) : (k.addHlFlags v).c = k.c := rfl
@[simp] theorem Cpu.addHlFlags_d (v : Word) (k : Cpu) : (k.addHlFlags v).d = k.d := rfl
@[simp] theorem Cpu.addHlFlags_e (v : Word) (k : Cpu) : (k.addHlFlags v).e = k.e := rfl
@[simp] theorem Cpu.addHlFlags_h (v : Word) (k : Cpu) : (k.addHlFlags v).h = k.h := rfl
@[simp] theorem Cpu.addHlFlags_l (v : Word) (k : Cpu) : (k.addHlFlags v).l = k.l := rfl
@[simp] theorem Cpu.addHlFlags_sp (v : Word) (k : Cpu) : (k.addHlFlags v).sp = k.sp := rfl
@[simp] theorem Cpu.addHlFlags_pc (v : Word) (k : Cpu) : (k.addHlFlags v).pc = k.pc := rfl
@[simp] theorem Cpu.addHlFlags_ime (v : Word) (k : Cpu) : (k.addHlFlags v).ime = k.ime := rfl
@[simp] theorem Cpu.addHlFlags_imePending (v : Word) (k : Cpu) : (k.addHlFlags v).imePending = k.imePending := rfl
@[simp] theorem Cpu.addHlFlags_halted (v : Word) (k : Cpu) : (k.addHlFlags v).halted = k.halted := rfl
@[simp] theorem Cpu.addHlFlags_stopped (v : Word) (k : Cpu) : (k.addHlFlags v).stopped = k.stopped := rfl
@[simp] theorem Cpu.addHlFlags_haltBug (v : Word) (k : Cpu) : (k.addHlFlags v).haltBug = k.haltBug := rfl
@[simp] theorem Cpu.addHlFlags_locked (v : Word) (k : Cpu) : (k.addHlFlags v).locked = k.locked := rfl
@[simp] theorem Cpu.addHlFlags_opcodeAddr (v : Word) (k : Cpu) : (k.addHlFlags v).opcodeAddr = k.opcodeAddr := rfl
@[simp] theorem Cpu.addHlFlags_illegalByte (v : Word) (k : Cpu) : (k.addHlFlags v).illegalByte = k.illegalByte := rfl

/-! `Cpu.afterOpcode`. -/

@[simp] theorem Cpu.afterOpcode_a (k : Cpu) : (k.afterOpcode).a = k.a := rfl
@[simp] theorem Cpu.afterOpcode_f (k : Cpu) : (k.afterOpcode).f = k.f := rfl
@[simp] theorem Cpu.afterOpcode_b (k : Cpu) : (k.afterOpcode).b = k.b := rfl
@[simp] theorem Cpu.afterOpcode_c (k : Cpu) : (k.afterOpcode).c = k.c := rfl
@[simp] theorem Cpu.afterOpcode_d (k : Cpu) : (k.afterOpcode).d = k.d := rfl
@[simp] theorem Cpu.afterOpcode_e (k : Cpu) : (k.afterOpcode).e = k.e := rfl
@[simp] theorem Cpu.afterOpcode_h (k : Cpu) : (k.afterOpcode).h = k.h := rfl
@[simp] theorem Cpu.afterOpcode_l (k : Cpu) : (k.afterOpcode).l = k.l := rfl
@[simp] theorem Cpu.afterOpcode_sp (k : Cpu) : (k.afterOpcode).sp = k.sp := rfl
@[simp] theorem Cpu.afterOpcode_halted (k : Cpu) : (k.afterOpcode).halted = k.halted := rfl
@[simp] theorem Cpu.afterOpcode_stopped (k : Cpu) : (k.afterOpcode).stopped = k.stopped := rfl
@[simp] theorem Cpu.afterOpcode_locked (k : Cpu) : (k.afterOpcode).locked = k.locked := rfl
@[simp] theorem Cpu.afterOpcode_illegalByte (k : Cpu) : (k.afterOpcode).illegalByte = k.illegalByte := rfl

@[simp] theorem Cpu.nextPc_pc (k : Cpu) : k.nextPc.pc = k.pc + 1#16 := rfl
@[simp] theorem Cpu.goto_pc (t : Word) (k : Cpu) : (k.goto t).pc = t := rfl

/-! Registers by number. -/

@[simp] theorem Cpu.get_set_same (r : Reg8) (v : Byte) (k : Cpu) : (k.set r v).get r = v := by
  cases r <;> rfl

theorem Cpu.get_set_ne {r q : Reg8} (h : q ≠ r) (v : Byte) (k : Cpu) :
    (k.set r v).get q = k.get q := by
  cases r <;> cases q <;> first | exact absurd rfl h | rfl

@[simp] theorem Cpu.get_setFlags (z n h cy : Bool) (r : Reg8) (k : Cpu) :
    (k.setFlags z n h cy).get r = k.get r := by
  cases r <;> rfl

@[simp] theorem Cpu.get_leaveFlags (x : Computed) (r : Reg8) (k : Cpu) :
    (k.leaveFlags x).get r = k.get r := by
  cases r <;> rfl

@[simp] theorem Cpu.get_goto (t : Word) (r : Reg8) (k : Cpu) : (k.goto t).get r = k.get r := by
  cases r <;> rfl

@[simp] theorem Cpu.get_nextPc (r : Reg8) (k : Cpu) : k.nextPc.get r = k.get r := by
  cases r <;> rfl

@[simp] theorem Cpu.get_afterOpcode (r : Reg8) (k : Cpu) : k.afterOpcode.get r = k.get r := by
  cases r <;> rfl

@[simp] theorem Cpu.get_offsetFlags (b : Byte) (r : Reg8) (k : Cpu) :
    (k.offsetFlags b).get r = k.get r := by
  cases r <;> rfl

@[simp] theorem Cpu.get_addHlFlags (v : Word) (r : Reg8) (k : Cpu) :
    (k.addHlFlags v).get r = k.get r := by
  cases r <;> rfl

/-! Words and their halves. -/

theorem Word.toNat_ofBytes (x y : Byte) : (Word.ofBytes x y).toNat = x.toNat * 256 + y.toNat := by
  unfold Word.ofBytes
  rw [BitVec.toNat_append, Nat.shiftLeft_eq, Nat.mul_comm, ← Nat.two_pow_add_eq_or_of_lt y.isLt]

theorem Word.toNat_hi (v : Word) : v.hi.toNat = v.toNat / 256 := by
  unfold Word.hi
  simp only [BitVec.extractLsb'_toNat, Nat.shiftRight_eq_div_pow]
  omega

theorem Word.toNat_lo (v : Word) : v.lo.toNat = v.toNat % 256 := by
  simp [Word.lo]

@[simp] theorem Word.ofBytes_halves (v : Word) : Word.ofBytes v.hi v.lo = v := by
  apply BitVec.eq_of_toNat_eq
  rw [Word.toNat_ofBytes, Word.toNat_hi, Word.toNat_lo]
  omega

@[simp] theorem Word.hi_ofBytes (x y : Byte) : (Word.ofBytes x y).hi = x := by
  apply BitVec.eq_of_toNat_eq
  rw [Word.toNat_hi, Word.toNat_ofBytes]
  omega

@[simp] theorem Word.lo_ofBytes (x y : Byte) : (Word.ofBytes x y).lo = y := by
  apply BitVec.eq_of_toNat_eq
  rw [Word.toNat_lo, Word.toNat_ofBytes]
  omega

@[simp] theorem Cpu.hl_setHl (v : Word) (k : Cpu) : (k.setHl v).hl = v := Word.ofBytes_halves v

@[simp] theorem Cpu.getPair_setPair (r : Pair) (v : Word) (k : Cpu) :
    (k.setPair r v).getPair r = v := by
  cases r <;> first | exact Word.ofBytes_halves v | rfl

/-! The flags. -/

theorem packFlags_bits : ∀ z n h c : Bool,
    (packFlags z n h c).getLsbD 7 = z ∧ (packFlags z n h c).getLsbD 6 = n ∧
    (packFlags z n h c).getLsbD 5 = h ∧ (packFlags z n h c).getLsbD 4 = c ∧
    packFlags z n h c &&& 0x0F#8 = 0x00#8 := by decide

/-- F written from four flags has them, and zeros below (rules R105, R106). -/
theorem Cpu.flags_setFlags (z n h cy : Bool) (k : Cpu) : (k.setFlags z n h cy).Flags z n h cy :=
  have p := packFlags_bits z n h cy
  ⟨p.1, p.2.1, p.2.2.1, p.2.2.2.1, p.2.2.2.2⟩

/-- Writing a register leaves the flags as they are. -/
theorem Cpu.Flags.set {z n h cy : Bool} {k : Cpu} (hk : k.Flags z n h cy) (r : Reg8) (v : Byte) :
    (k.set r v).Flags z n h cy := by
  cases r <;> exact ⟨hk.z, hk.n, hk.h, hk.cy, hk.low⟩

theorem Cpu.flags_leaveFlags (x : Computed) (k : Cpu) :
    (k.leaveFlags x).Flags x.z x.n x.h x.c := Cpu.flags_setFlags x.z x.n x.h x.c k

/-! Control and frames. -/

theorem Cpu.SameControl.refl (c : Cpu) : c.SameControl c := ⟨rfl, rfl, rfl, rfl, rfl, rfl, rfl, rfl⟩

theorem Cpu.SameControl.trans {a b c : Cpu} (h : a.SameControl b) (h' : b.SameControl c) :
    a.SameControl c :=
  ⟨h'.ime.trans h.ime, h'.imePending.trans h.imePending, h'.halted.trans h.halted,
    h'.stopped.trans h.stopped, h'.haltBug.trans h.haltBug, h'.locked.trans h.locked,
    h'.opcodeAddr.trans h.opcodeAddr, h'.illegalByte.trans h.illegalByte⟩

theorem Frame.refl (s : State) : Frame s s :=
  ⟨rfl, BitVec.and_self, fun _ _ => rfl, id⟩

theorem Frame.trans {s t u : State} (h : Frame s t) (h' : Frame t u) : Frame s u where
  settings := h'.settings.trans h.settings
  requests := by
    rw [← h.requests, BitVec.and_assoc, h'.requests]
  bytes k hk :=
    (h'.bytes k (hk.imp id h.quiet)).trans (h.bytes k hk)
  quiet hq := h'.quiet (h.quiet hq)

/-- A change of the CPU alone is no change to the frame. -/
theorem Frame.onCpu {s t : State} (h : Frame s t) (f : Cpu → Cpu) : Frame s (t.onCpu f) :=
  ⟨h.settings, h.requests, h.bytes, h.quiet⟩

theorem Frame.of_onCpu {s t : State} {f : Cpu → Cpu} (h : Frame (s.onCpu f) t) : Frame s t :=
  ⟨h.settings, h.requests, h.bytes, h.quiet⟩

theorem State.sameUnits_onCpu (f : Cpu → Cpu) (s : State) : State.SameUnits s (s.onCpu f) := rfl

end Sys2Proof.Machine
end

