-- ==== Sys2Proof/Laws/Ppu.lean ====
section
/-! SUPPORT. What the PPU's step leaves alone: the registers that only a CPU write changes. -/

namespace Sys2Proof.Machine

/-- The registers a CPU write alone changes (rules R120 to R122, R850). -/
def Ppu.regs (p : Ppu) :
    Byte × BitVec 4 × Byte × Byte × Byte × Byte × Byte × Byte × Byte × Byte :=
  (p.lcdc, p.statSel, p.scy, p.scx, p.lyc, p.bgp, p.obp0, p.obp1, p.wy, p.wx)

theorem Ppu.regs_ite {c : Prop} [Decidable c] {p q r : Ppu} (h : q.regs = p.regs)
    (h' : r.regs = p.regs) : (if c then q else r).regs = p.regs := by
  split <;> assumption

@[simp] theorem Ppu.regs_updateStat (p : Ppu) : p.updateStat.1.regs = p.regs := rfl

@[simp] theorem Ppu.regs_oamScanStep (mem : Memory) (p : Ppu) :
    (p.oamScanStep mem).regs = p.regs := Ppu.regs_ite rfl rfl

@[simp] theorem Ppu.regs_countDot (n : Nat) (t : FetchState) (p : Ppu) :
    (p.countDot n t).regs = p.regs := Ppu.regs_ite rfl rfl

@[simp] theorem Ppu.regs_readTileNumber (mem : Memory) (p : Ppu) :
    (p.readTileNumber mem).regs = p.regs := Ppu.regs_ite rfl rfl

@[simp] theorem Ppu.regs_readTileLow (mem : Memory) (p : Ppu) :
    (p.readTileLow mem).regs = p.regs := Ppu.regs_ite rfl rfl

@[simp] theorem Ppu.regs_readTileHigh (mem : Memory) (p : Ppu) :
    (p.readTileHigh mem).regs = p.regs := Ppu.regs_ite rfl rfl

@[simp] theorem Ppu.regs_pushRow (p : Ppu) : p.pushRow.regs = p.regs := Ppu.regs_ite rfl rfl

@[simp] theorem Ppu.regs_fetcherStep (mem : Memory) (p : Ppu) :
    (p.fetcherStep mem).regs = p.regs := by
  unfold Ppu.fetcherStep
  split <;> simp

@[simp] theorem Ppu.regs_mergePixel (x : Nat) (v : SpritePixel) (p : Ppu) :
    (p.mergePixel x v).regs = p.regs := by
  unfold Ppu.mergePixel
  refine Ppu.regs_ite rfl ?_
  dsimp only
  split
  · exact Ppu.regs_ite rfl rfl
  · rfl

@[simp] theorem Ppu.regs_mergeRow (x : Nat) (attr hi lo : Byte) (n k : Nat) (p : Ppu) :
    (Ppu.mergeRow x attr hi lo n k p).regs = p.regs := by
  induction n generalizing k p with
  | zero => rfl
  | succ n ih => simp [Ppu.mergeRow, ih]

@[simp] theorem Ppu.regs_spriteFetch (mem : Memory) (n : Nat) (p : Ppu) :
    (p.spriteFetch mem n).regs = p.regs := by simp [Ppu.spriteFetch]

@[simp] theorem Ppu.regs_pixelStep (mem : Memory) (p : Ppu) : (p.pixelStep mem).regs = p.regs := by
  unfold Ppu.pixelStep
  split
  · rfl
  · refine Ppu.regs_ite rfl (Ppu.regs_ite rfl ?_)
    split <;> rfl

@[simp] theorem Ppu.regs_mode3Dot (mem : Memory) (p : Ppu) : (p.mode3Dot mem).regs = p.regs := by
  unfold Ppu.mode3Dot
  refine Ppu.regs_ite (by simp) (Ppu.regs_ite ?_ rfl)
  rw [Ppu.regs_spriteFetch]
  rfl

@[simp] theorem Ppu.regs_enterScan (p : Ppu) : p.enterScan.regs = p.regs := Ppu.regs_ite rfl rfl

@[simp] theorem Ppu.regs_enterDrawing (p : Ppu) : p.enterDrawing.regs = p.regs :=
  Ppu.regs_ite rfl rfl

@[simp] theorem Ppu.regs_enterVblank (p : Ppu) : p.enterVblank.regs = p.regs :=
  Ppu.regs_ite rfl rfl

@[simp] theorem Ppu.regs_restartWindowLines (p : Ppu) : p.restartWindowLines.regs = p.regs :=
  Ppu.regs_ite rfl rfl

@[simp] theorem Ppu.regs_enterDot (p : Ppu) : p.enterDot.regs = p.regs := by simp [Ppu.enterDot]

@[simp] theorem Ppu.regs_modeWork (mem : Memory) (p : Ppu) : (p.modeWork mem).regs = p.regs := by
  unfold Ppu.modeWork
  split
  · exact Ppu.regs_oamScanStep mem p
  · exact Ppu.regs_ite rfl (Ppu.regs_mode3Dot mem p)
  · rfl
  · rfl

@[simp] theorem Ppu.regs_dotWork (mem : Memory) (p : Ppu) :
    (p.dotWork mem).1.regs = p.regs := by simp [Ppu.dotWork]

@[simp] theorem Ppu.regs_advance (p : Ppu) : p.advance.regs = p.regs := Ppu.regs_ite rfl rfl

/-- The PPU's slot changes no register that a CPU write alone changes. -/
@[simp] theorem Ppu.regs_step (mem : Memory) (p : Ppu) : (p.step mem).1.regs = p.regs := by
  unfold Ppu.step
  split <;> simp

theorem Ppu.lcdc_of_regs {p q : Ppu} (h : q.regs = p.regs) : q.lcdc = p.lcdc := congrArg (·.1) h

theorem Ppu.regs_skipframe (b : Bool) (p : Ppu) : ({ p with skipframe := b } : Ppu).regs = p.regs := rfl

@[simp] theorem Ppu.regs_turnOn (mem : Memory) (p : Ppu) : (p.turnOn mem).regs = p.regs := by
  unfold Ppu.turnOn
  rw [Ppu.regs_skipframe, Ppu.regs_dotWork]
  rfl

@[simp] theorem Ppu.regs_turnOff (p : Ppu) : p.turnOff.regs = p.regs := rfl

/-- A write of LCDC leaves the other registers alone (rule R862). -/
theorem Ppu.regs_writeLcdc (mem : Memory) (v : Byte) (p : Ppu) :
    (p.writeLcdc mem v).1.regs = ({ p with lcdc := v } : Ppu).regs := by
  unfold Ppu.writeLcdc
  dsimp only
  rw [Ppu.regs_updateStat]
  exact Ppu.regs_ite (Ppu.regs_turnOff _) (Ppu.regs_ite (Ppu.regs_turnOn mem _) rfl)

end Sys2Proof.Machine
end

