-- ==== Sys2Proof/Laws/Clock.lean ====
section
/-! SUPPORT. What an M-cycle and a CPU read do: the CPU is left alone, four T-cycles pass, and the frame
holds. -/

namespace Sys2Proof.Machine

/-! Requests only add bits. -/

theorem Interrupts.request_ie (i : Nat) (e : Bool) (q : Interrupts) : (q.request i e).ie = q.ie := by
  unfold Interrupts.request; split <;> rfl

theorem Interrupts.and_or_self (a b : BitVec 5) : a &&& (a ||| b) = a := by
  apply BitVec.eq_of_getLsbD_eq
  intro i hi
  simp only [BitVec.getLsbD_and, BitVec.getLsbD_or]
  cases a.getLsbD i <;> simp

theorem Interrupts.request_keeps (i : Nat) (e : Bool) (q : Interrupts) :
    q.ifr &&& (q.request i e).ifr = q.ifr := by
  unfold Interrupts.request
  split
  · exact Interrupts.and_or_self _ _
  · exact BitVec.and_self

/-! The timer. -/

@[simp] theorem Timer.edgeCheck_tma (t : Timer) : t.edgeCheck.tma = t.tma := by
  unfold Timer.edgeCheck Timer.increment
  split
  · dsimp only; split <;> rfl
  · rfl

@[simp] theorem Timer.edgeCheck_tac (t : Timer) : t.edgeCheck.tac = t.tac := by
  unfold Timer.edgeCheck Timer.increment
  split
  · dsimp only; split <;> rfl
  · rfl

@[simp] theorem Timer.edgeCheck_counter (t : Timer) : t.edgeCheck.counter = t.counter := by
  unfold Timer.edgeCheck Timer.increment
  split
  · dsimp only; split <;> rfl
  · rfl

theorem Timer.reloadStep_tma (t : Timer) : t.reloadStep.1.tma = t.tma := by
  unfold Timer.reloadStep
  split
  · rfl
  · split <;> rfl

theorem Timer.reloadStep_tac (t : Timer) : t.reloadStep.1.tac = t.tac := by
  unfold Timer.reloadStep
  split
  · rfl
  · split <;> rfl

theorem Timer.reloadStep_counter (t : Timer) : t.reloadStep.1.counter = t.counter := by
  unfold Timer.reloadStep
  split
  · rfl
  · split <;> rfl

@[simp] theorem Timer.step_tma (t : Timer) : t.step.1.tma = t.tma := by
  simp [Timer.step, Timer.reloadStep_tma]

@[simp] theorem Timer.step_tac (t : Timer) : t.step.1.tac = t.tac := by
  simp [Timer.step, Timer.reloadStep_tac]

/-- The counter advances by one each T-cycle (rule R760). -/
@[simp] theorem Timer.step_counter (t : Timer) : t.step.1.counter = t.counter + 1#16 := by
  simp [Timer.step, Timer.reloadStep_counter]

/-! The serial port. -/

theorem Serial.step_internal (p : Serial) : p.step.1.internal = p.internal := by
  unfold Serial.step
  split
  · rfl
  · split <;> rfl

theorem Serial.step_input (p : Serial) : p.step.1.input = p.input := by
  unfold Serial.step
  split
  · rfl
  · split <;> rfl

theorem Serial.step_out (p : Serial) : p.step.1.out = p.out := by
  unfold Serial.step
  split
  · rfl
  · split <;> rfl

/-! Reads of the cartridge and the boot ROM. -/

/-- A cartridge read changes nothing but what a device was told (rule R240). -/
theorem State.cartRead_state (n : Nat) (s : State) :
    (s.cartRead n).2 = { s with cart := (s.cartRead n).2.cart } := by
  unfold State.cartRead
  split <;> rfl

theorem State.romRead_state (n : Nat) (s : State) :
    (s.romRead n).2 = { s with cart := (s.romRead n).2.cart } := by
  unfold State.romRead
  split
  · rfl
  · exact State.cartRead_state n s

/-- What kind of cartridge is plugged in: whether a NoMBC one has RAM, none for another device. -/
def Cart.ram (c : Cart) : Option Bool :=
  match c with
  | .noMbc ram => some ram
  | .device _ => none

@[simp] theorem Cart.tell_ram (k : Nat) (e : CartEvent) (c : Cart) : (c.tell k e).ram = c.ram := by
  cases c <;> rfl

theorem State.cartRead_ram (n : Nat) (s : State) : (s.cartRead n).2.cart.ram = s.cart.ram := by
  unfold State.cartRead
  split <;> rename_i h <;> simp [h, Cart.ram]

theorem State.romRead_ram (n : Nat) (s : State) : (s.romRead n).2.cart.ram = s.cart.ram := by
  unfold State.romRead
  split
  · rfl
  · exact State.cartRead_ram n s

theorem State.dmaRead_state (n : Nat) (s : State) :
    (s.dmaRead n).2 = { s with cart := (s.dmaRead n).2.cart } := by
  unfold State.dmaRead
  split
  · rfl
  · split
    · exact State.romRead_state n s
    · rfl

theorem State.dmaRead_ram (n : Nat) (s : State) : (s.dmaRead n).2.cart.ram = s.cart.ram := by
  unfold State.dmaRead
  split
  · rfl
  · split
    · exact State.romRead_ram n s
    · rfl

/-- A CPU read changes nothing but what a device was told (rules R214, R240). -/
theorem State.busRead_state (a : Word) (s : State) :
    (s.busRead a).2 = { s with cart := (s.busRead a).2.cart } := by
  unfold State.busRead
  dsimp only
  split
  · rfl
  · split <;> first | rfl | exact State.romRead_state _ s

theorem State.busRead_ram (a : Word) (s : State) : (s.busRead a).2.cart.ram = s.cart.ram := by
  unfold State.busRead
  dsimp only
  split
  · rfl
  · split <;> first | rfl | exact State.romRead_ram _ s

/-- A state in which only what a device was told has changed. -/
theorem Frame.cart {s : State} {c : Cart} (h : c.ram = s.cart.ram) :
    Frame s { s with cart := c } where
  settings := by
    have : ({ s with cart := c } : State).settings =
        { s.settings with cartRam := c.ram } := rfl
    rw [this, h]
    rfl
  requests := BitVec.and_self
  bytes _ _ := rfl
  quiet := id

theorem Frame.busRead (a : Word) (s : State) : Frame s (s.busRead a).2 := by
  rw [State.busRead_state]
  exact Frame.cart (State.busRead_ram a s)

@[simp] theorem State.busRead_cpu (a : Word) (s : State) : (s.busRead a).2.cpu = s.cpu := by
  rw [State.busRead_state]

@[simp] theorem State.busRead_clock (a : Word) (s : State) : (s.busRead a).2.clock = s.clock := by
  rw [State.busRead_state]

/-! The slots of a T-cycle. -/

theorem State.timerStep_frame (s : State) : Frame s s.timerStep where
  settings := by
    simp [State.settings, State.timerStep, Interrupts.request_ie]
  requests := Interrupts.request_keeps _ _ _
  bytes _ _ := rfl
  quiet := id

theorem State.dmaStep_frame (t : Nat) (s : State) : Frame s (s.dmaStep t) := by
  unfold State.dmaStep
  split
  · rename_i h
    dsimp only
    rw [State.dmaRead_state]
    refine ⟨?_, BitVec.and_self, fun k hk => ?_, fun hq => ?_⟩
    · have hr := State.dmaRead_ram (s.dma.src.toNat + s.dma.idx) s
      exact (Frame.cart hr).settings
    · rcases hk with hk | hk
      · refine Cells.read_write_other _ _ ?_
        intro he
        have h2 := h.2.2
        simp only [inOam, he, Config.dmaLength, Bool.and_eq_false_imp, decide_eq_true_eq,
          decide_eq_false_iff_not] at hk h2
        omega
      · simp [State.quiet, h.1] at hk
    · simp [State.quiet, h.1] at hq
  · exact Frame.refl s

theorem State.ppuStep_frame (s : State) : Frame s s.ppuStep where
  settings := by
    have h := Ppu.regs_step s.mem s.ppu
    simp only [Ppu.regs, Prod.mk.injEq] at h
    simp [State.settings, State.ppuStep, Interrupts.request_ie, h]
  requests := by
    have h1 := Interrupts.request_keeps srcVblank (s.ppu.step s.mem).2.1 s.irq
    have h2 := Interrupts.request_keeps srcStat (s.ppu.step s.mem).2.2
      (s.irq.request srcVblank (s.ppu.step s.mem).2.1)
    show s.irq.ifr &&& _ = s.irq.ifr
    rw [← h1, BitVec.and_assoc]
    exact congrArg (s.irq.ifr &&& ·) h2
  bytes _ _ := rfl
  quiet := id

theorem State.serialStep_frame (s : State) : Frame s s.serialStep where
  settings := by
    simp [State.settings, State.serialStep, Interrupts.request_ie, Serial.step_internal,
      Serial.step_input, Serial.step_out]
  requests := Interrupts.request_keeps _ _ _
  bytes _ _ := rfl
  quiet := id

theorem State.joypadStep_frame (s : State) : Frame s s.joypadStep where
  settings := by
    simp [State.settings, State.joypadStep, Interrupts.request_ie, Joypad.evaluate]
  requests := Interrupts.request_keeps _ _ _
  bytes _ _ := rfl
  quiet := id

/-- The frame of a T-cycle. -/
theorem State.tCycle_frame (t : Nat) (s : State) : Frame s (s.tCycle t) := by
  have h := ((((State.timerStep_frame s).trans (State.dmaStep_frame t _)).trans
    (State.ppuStep_frame _)).trans (State.serialStep_frame _)).trans (State.joypadStep_frame _)
  exact ⟨h.settings, h.requests, h.bytes, h.quiet⟩

@[simp] theorem State.dmaStep_cpu (t : Nat) (s : State) : (s.dmaStep t).cpu = s.cpu := by
  unfold State.dmaStep
  split
  · dsimp only; rw [State.dmaRead_state]
  · rfl

@[simp] theorem State.dmaStep_clock (t : Nat) (s : State) : (s.dmaStep t).clock = s.clock := by
  unfold State.dmaStep
  split
  · dsimp only; rw [State.dmaRead_state]
  · rfl

@[simp] theorem State.tCycle_cpu (t : Nat) (s : State) : (s.tCycle t).cpu = s.cpu :=
  State.dmaStep_cpu t s.timerStep

@[simp] theorem State.tCycle_clock (t : Nat) (s : State) : (s.tCycle t).clock = s.clock + 1 :=
  congrArg (· + 1) (State.dmaStep_clock t s.timerStep)

/-! The M-cycle. -/

theorem Dma.latch_quiet {d : Dma} (h : d.active = false ∧ d.start = false) :
    d.latch.active = false ∧ d.latch.start = false := by
  unfold Dma.latch
  dsimp only
  split <;> simp [h]

theorem State.endMCycle_frame (s : State) : Frame s s.endMCycle where
  settings := by
    have : s.dma.latch.reg = s.dma.reg := by
      unfold Dma.latch; dsimp only; split <;> split <;> rfl
    simp [State.settings, State.endMCycle, this]
  requests := BitVec.and_self
  bytes _ _ := rfl
  quiet h := by
    simp only [State.quiet, Bool.and_eq_true, Bool.not_eq_true'] at h ⊢
    exact Dma.latch_quiet h

/-- The frame of an M-cycle. -/
theorem State.mCycle_frame (s : State) : Frame s s.mCycle :=
  ((((State.tCycle_frame 0 s).trans (State.tCycle_frame 1 _)).trans
    (State.tCycle_frame 2 _)).trans (State.tCycle_frame 3 _)).trans (State.endMCycle_frame _)

/-- An M-cycle leaves the CPU alone. -/
@[simp] theorem State.mCycle_cpu (s : State) : s.mCycle.cpu = s.cpu := by
  show ((((s.tCycle 0).tCycle 1).tCycle 2).tCycle 3).cpu = s.cpu
  simp

/-- An M-cycle is four T-cycles (rule R6). -/
@[simp] theorem State.mCycle_clock (s : State) : s.mCycle.clock = s.clock + 4 := by
  show ((((s.tCycle 0).tCycle 1).tCycle 2).tCycle 3).clock = s.clock + 4
  simp

/-! The CPU plays no part in an M-cycle. -/

theorem State.cartRead_onCpu (n : Nat) (f : Cpu → Cpu) (s : State) :
    (s.onCpu f).cartRead n = ((s.cartRead n).1, (s.cartRead n).2.onCpu f) := by
  unfold State.cartRead State.onCpu
  dsimp only
  split <;> rfl

theorem State.romRead_onCpu (n : Nat) (f : Cpu → Cpu) (s : State) :
    (s.onCpu f).romRead n = ((s.romRead n).1, (s.romRead n).2.onCpu f) := by
  unfold State.romRead
  rw [State.cartRead_onCpu, State.onCpu_bootMapped]
  by_cases h : (s.bootMapped && decide (n < 0x100)) = true
  · rw [if_pos h, if_pos h]; rfl
  · rw [if_neg h, if_neg h]

theorem State.dmaRead_onCpu (n : Nat) (f : Cpu → Cpu) (s : State) :
    (s.onCpu f).dmaRead n = ((s.dmaRead n).1, (s.dmaRead n).2.onCpu f) := by
  unfold State.dmaRead
  rw [State.romRead_onCpu]
  by_cases h : 0xE000 ≤ n
  · rw [if_pos h, if_pos h]; rfl
  · rw [if_neg h, if_neg h]
    by_cases h' : inCart n = true
    · rw [if_pos h', if_pos h']
    · rw [if_neg h', if_neg h']; rfl

theorem State.dmaStep_onCpu (t : Nat) (f : Cpu → Cpu) (s : State) :
    (s.onCpu f).dmaStep t = (s.dmaStep t).onCpu f := by
  unfold State.dmaStep
  rw [State.onCpu_dma, State.dmaRead_onCpu]
  by_cases h : s.dma.active = true ∧ t = 0 ∧ s.dma.idx < Config.dmaLength
  · rw [if_pos h, if_pos h]; rfl
  · rw [if_neg h, if_neg h]

theorem State.tCycle_onCpu (t : Nat) (f : Cpu → Cpu) (s : State) :
    (s.onCpu f).tCycle t = (s.tCycle t).onCpu f := by
  have h1 : (s.onCpu f).timerStep = s.timerStep.onCpu f := rfl
  unfold State.tCycle
  rw [h1, State.dmaStep_onCpu]
  rfl

theorem State.mCycle_onCpu (f : Cpu → Cpu) (s : State) :
    (s.onCpu f).mCycle = s.mCycle.onCpu f := by
  unfold State.mCycle
  rw [State.tCycle_onCpu, State.tCycle_onCpu, State.tCycle_onCpu, State.tCycle_onCpu]
  rfl

/-! The CPU's accesses. -/

theorem State.memRead_frame (a : Word) (s : State) : Frame s (s.memRead a).2 :=
  (Frame.busRead a s).trans (State.mCycle_frame _)

@[simp] theorem State.memRead_cpu (a : Word) (s : State) : (s.memRead a).2.cpu = s.cpu := by
  simp [State.memRead]

@[simp] theorem State.memRead_clock (a : Word) (s : State) :
    (s.memRead a).2.clock = s.clock + 4 := by
  simp [State.memRead]

@[simp] theorem State.memRead_fst (a : Word) (s : State) : (s.memRead a).1 = (s.busRead a).1 := rfl

@[simp] theorem State.internal_cpu (s : State) : s.internal.cpu = s.cpu := State.mCycle_cpu s

@[simp] theorem State.internal_clock (s : State) : s.internal.clock = s.clock + 4 :=
  State.mCycle_clock s

theorem State.internal_frame (s : State) : Frame s s.internal := State.mCycle_frame s

theorem State.ioWrite_cpu (n : Nat) (v : Byte) (s : State) : (s.ioWrite n v).cpu = s.cpu := by
  unfold State.ioWrite; split <;> rfl

theorem State.ioWrite_clock (n : Nat) (v : Byte) (s : State) :
    (s.ioWrite n v).clock = s.clock := by
  unfold State.ioWrite; split <;> rfl

theorem State.ioWrite_mem (n : Nat) (v : Byte) (s : State) : (s.ioWrite n v).mem = s.mem := by
  unfold State.ioWrite; split <;> rfl

theorem State.cartNotify_state (n : Nat) (v : Byte) (s : State) :
    s.cartNotify n v = { s with cart := (s.cartNotify n v).cart } := rfl

theorem State.registerWrite_cpu (n : Nat) (v : Byte) (s : State) :
    (s.registerWrite n v).cpu = s.cpu := by
  unfold State.registerWrite
  split <;> first | rfl | exact State.ioWrite_cpu _ _ _

theorem State.registerWrite_clock (n : Nat) (v : Byte) (s : State) :
    (s.registerWrite n v).clock = s.clock := by
  unfold State.registerWrite
  split <;> first | rfl | exact State.ioWrite_clock _ _ _

theorem State.registerWrite_mem (n : Nat) (v : Byte) (s : State) :
    (s.registerWrite n v).mem = s.mem := by
  unfold State.registerWrite
  split <;> first | rfl | exact State.ioWrite_mem _ _ _

@[simp] theorem State.busWrite_cpu (a : Word) (v : Byte) (s : State) :
    (s.busWrite a v).cpu = s.cpu := by
  unfold State.busWrite
  split
  · rfl
  · split
    · rfl
    · exact State.registerWrite_cpu _ _ _

@[simp] theorem State.busWrite_clock (a : Word) (v : Byte) (s : State) :
    (s.busWrite a v).clock = s.clock := by
  unfold State.busWrite
  split
  · rfl
  · split
    · rfl
    · exact State.registerWrite_clock _ _ _

/-- What a CPU write does to memory: the byte at its key, or nothing. -/
theorem State.busWrite_mem (a : Word) (v : Byte) (s : State) :
    (s.busWrite a v).mem =
      match s.storeKey a with
      | some k => Cells.write s.mem k v
      | none => s.mem := by
  unfold State.busWrite
  split
  · rename_i h
    simp [State.storeKey, h]
  · cases hk : s.storeKey a with
    | some k => rfl
    | none => exact State.registerWrite_mem _ _ _

@[simp] theorem State.memWrite_cpu (a : Word) (v : Byte) (s : State) :
    (s.memWrite a v).cpu = s.cpu := by simp [State.memWrite]

@[simp] theorem State.memWrite_clock (a : Word) (v : Byte) (s : State) :
    (s.memWrite a v).clock = s.clock + 4 := by simp [State.memWrite]

end Sys2Proof.Machine
end

