-- ==== Sys2Proof/Laws/Bus.lean ====
section
/-! SUPPORT. What a CPU write does to memory: the byte at its key and no other, whatever the units do in
the same M-cycle. -/

namespace Sys2Proof.Machine

/-! An M-cycle's writes: OAM only, and only while a DMA runs. -/

theorem State.dmaStep_idle {t : Nat} {s : State} (h : s.dma.active = false) : s.dmaStep t = s := by
  simp [State.dmaStep, h]

theorem State.dmaStep_dma (t : Nat) (s : State) :
    (s.dmaStep t).dma.active = s.dma.active ∧ (s.dmaStep t).dma.start = s.dma.start := by
  unfold State.dmaStep
  split <;> exact ⟨rfl, rfl⟩

theorem State.tCycle_active (t : Nat) (s : State) : (s.tCycle t).dma.active = s.dma.active :=
  (State.dmaStep_dma t s.timerStep).1

theorem State.tCycle_mem {t : Nat} {s : State} (h : s.dma.active = false) :
    (s.tCycle t).mem = s.mem := by
  have : (s.timerStep).dmaStep t = s.timerStep := State.dmaStep_idle h
  show ((s.timerStep).dmaStep t).mem = s.mem
  rw [this]
  rfl

/-- While no DMA runs an M-cycle stores nothing. -/
theorem State.mCycle_mem {s : State} (h : s.dma.active = false) : s.mCycle.mem = s.mem := by
  show ((((s.tCycle 0).tCycle 1).tCycle 2).tCycle 3).mem = s.mem
  rw [State.tCycle_mem, State.tCycle_mem, State.tCycle_mem, State.tCycle_mem] <;>
    simp [State.tCycle_active, h]

/-- An M-cycle stores to OAM only, and only while a DMA runs. -/
theorem State.mCycle_byteAt {s : State} {k : Nat} (h : inOam k = false ∨ s.dma.active = false) :
    s.mCycle.byteAt k = s.byteAt k := by
  rcases h with h | h
  · exact (State.mCycle_frame s).bytes k (.inl h)
  · simp [State.byteAt, State.mCycle_mem h]

/-! CPU writes. -/

theorem State.ioWrite_active (n : Nat) (v : Byte) (s : State) :
    (s.ioWrite n v).dma.active = s.dma.active := by
  unfold State.ioWrite; split <;> rfl

theorem State.registerWrite_active (n : Nat) (v : Byte) (s : State) :
    (s.registerWrite n v).dma.active = s.dma.active := by
  unfold State.registerWrite
  split <;> first | rfl | exact State.ioWrite_active _ _ _

theorem State.busWrite_active (a : Word) (v : Byte) (s : State) :
    (s.busWrite a v).dma.active = s.dma.active := by
  unfold State.busWrite
  split
  · rfl
  · split
    · rfl
    · exact State.registerWrite_active _ _ _

theorem State.active_of_quiet {s : State} (h : s.quiet = true) : s.dma.active = false := by
  simp only [State.quiet, Bool.and_eq_true, Bool.not_eq_true'] at h
  exact h.1

/-- A write that memory takes changes memory and nothing else. -/
theorem State.busWrite_some {a : Word} {v : Byte} {s : State} {k : Nat} (h : s.storeKey a = some k) :
    s.busWrite a v = { s with mem := Cells.write s.mem k v } := by
  have hb : s.dmaBlocks a.toNat = false := by
    by_contra hb
    rw [Bool.not_eq_false] at hb
    simp [State.storeKey, hb] at h
  simp [State.busWrite, hb, h]

/-- The byte stored reads back. -/
theorem State.memWrite_stored {a : Word} {v : Byte} {s : State} {k : Nat}
    (h : s.storeKey a = some k) (hk : inOam k = false ∨ s.quiet = true) :
    (s.memWrite a v).byteAt k = v := by
  unfold State.memWrite
  rw [State.mCycle_byteAt]
  · rw [State.busWrite_some h]
    exact Cells.read_write_same _ _ _
  · rw [State.busWrite_active]
    exact hk.imp id State.active_of_quiet

/-- Every other stored byte is kept, but for OAM while a DMA runs. -/
theorem State.memWrite_other {a : Word} {v : Byte} {s : State} {k : Nat}
    (h : s.storeKey a ≠ some k) (hk : inOam k = false ∨ s.quiet = true) :
    (s.memWrite a v).byteAt k = s.byteAt k := by
  unfold State.memWrite
  rw [State.mCycle_byteAt]
  · unfold State.byteAt
    rw [State.busWrite_mem]
    split
    · rename_i j hj
      exact Cells.read_write_other _ _ (fun he => h (he ▸ hj))
    · rfl
  · rw [State.busWrite_active]
    exact hk.imp id State.active_of_quiet

/-- A write that memory takes leaves everything else as an M-cycle does. -/
theorem State.memWrite_settings {a : Word} {v : Byte} {s : State} {k : Nat}
    (h : s.storeKey a = some k) : (s.memWrite a v).settings = s.settings := by
  unfold State.memWrite
  rw [(State.mCycle_frame _).settings, State.busWrite_some h]
  rfl

theorem ioReg_ite {c : Prop} [Decidable c] {r q : IoReg} (hr : r ≠ .dma) (hq : q ≠ .dma) :
    (if c then r else q) ≠ .dma := by
  split <;> assumption

theorem ioReg_dma {n : Nat} (h : ioReg n = .dma) : n = 0xFF46 := by
  by_contra hn
  refine absurd h ?_
  unfold ioReg
  rw [if_neg hn]
  repeat' apply ioReg_ite
  all_goals decide

theorem State.ioWrite_start {n : Nat} {v : Byte} {s : State} (h : n ≠ 0xFF46) :
    (s.ioWrite n v).dma.start = s.dma.start := by
  unfold State.ioWrite
  split <;> first | rfl | (rename_i hr; exact absurd (ioReg_dma hr) h)

/-- Only a write of 0xFF46 asks for a DMA (rule R230). -/
theorem State.busWrite_start {a : Word} {v : Byte} {s : State} (h : a ≠ 0xFF46#16) :
    (s.busWrite a v).dma.start = s.dma.start := by
  have hn : a.toNat ≠ 0xFF46 := fun he => h (BitVec.eq_of_toNat_eq he)
  unfold State.busWrite
  split
  · rfl
  · split
    · rfl
    · unfold State.registerWrite
      split <;> first | rfl | exact State.ioWrite_start hn

theorem State.memWrite_quiet {a : Word} {v : Byte} {s : State} (ha : a ≠ 0xFF46#16)
    (h : s.quiet = true) : (s.memWrite a v).quiet = true := by
  refine (State.mCycle_frame _).quiet ?_
  unfold State.quiet at h ⊢
  rw [State.busWrite_active, State.busWrite_start ha]
  exact h

/-! The CPU's registers play no part in an access. -/

theorem State.ioWrite_onCpu (n : Nat) (v : Byte) (f : Cpu → Cpu) (s : State) :
    (s.onCpu f).ioWrite n v = (s.ioWrite n v).onCpu f := by
  unfold State.ioWrite
  split <;> rfl

theorem State.cartNotify_onCpu (n : Nat) (v : Byte) (f : Cpu → Cpu) (s : State) :
    (s.onCpu f).cartNotify n v = (s.cartNotify n v).onCpu f := rfl

theorem State.registerWrite_onCpu (n : Nat) (v : Byte) (f : Cpu → Cpu) (s : State) :
    (s.onCpu f).registerWrite n v = (s.registerWrite n v).onCpu f := by
  unfold State.registerWrite
  rw [State.ioWrite_onCpu, State.cartNotify_onCpu]
  split <;> rfl

@[simp] theorem State.storeKey_onCpu (a : Word) (f : Cpu → Cpu) (s : State) :
    (s.onCpu f).storeKey a = s.storeKey a := rfl

theorem State.busWrite_onCpu (a : Word) (v : Byte) (f : Cpu → Cpu) (s : State) :
    (s.onCpu f).busWrite a v = (s.busWrite a v).onCpu f := by
  unfold State.busWrite
  rw [State.registerWrite_onCpu, State.storeKey_onCpu]
  have hb : (s.onCpu f).dmaBlocks a.toNat = s.dmaBlocks a.toNat := rfl
  rw [hb]
  by_cases h : s.dmaBlocks a.toNat = true
  · rw [if_pos h, if_pos h]
  · rw [if_neg h, if_neg h]
    cases s.storeKey a <;> rfl

theorem State.memWrite_onCpu (a : Word) (v : Byte) (f : Cpu → Cpu) (s : State) :
    (s.onCpu f).memWrite a v = (s.memWrite a v).onCpu f := by
  unfold State.memWrite
  rw [State.busWrite_onCpu, State.mCycle_onCpu]

theorem State.busRead_onCpu (a : Word) (f : Cpu → Cpu) (s : State) :
    (s.onCpu f).busRead a = ((s.busRead a).1, (s.busRead a).2.onCpu f) := by
  unfold State.busRead
  dsimp only
  rw [State.romRead_onCpu]
  have hb : (s.onCpu f).dmaBlocks a.toNat = s.dmaBlocks a.toNat := rfl
  rw [hb]
  by_cases h : s.dmaBlocks a.toNat = true
  · rw [if_pos h, if_pos h]
  · rw [if_neg h, if_neg h]
    split <;> rfl

theorem State.memRead_onCpu (a : Word) (f : Cpu → Cpu) (s : State) :
    (s.onCpu f).memRead a = ((s.memRead a).1, (s.memRead a).2.onCpu f) := by
  unfold State.memRead
  rw [State.busRead_onCpu]
  dsimp only
  rw [State.mCycle_onCpu]

theorem State.internal_onCpu (f : Cpu → Cpu) (s : State) :
    (s.onCpu f).internal = s.internal.onCpu f := State.mCycle_onCpu f s

/-! What a store, and two of them, do to memory. -/

theorem State.memWrite_stores (a : Word) (v : Byte) (s : State) : Stores a v s (s.memWrite a v) where
  written _ h hk := State.memWrite_stored h hk
  kept _ h hk := State.memWrite_other h hk
  settings h := by
    obtain ⟨k, hk⟩ := Option.ne_none_iff_exists'.mp h
    exact State.memWrite_settings hk

theorem State.memWrite_storesTwo (a : Word) (x : Byte) (b : Word) (y : Byte) (s : State) :
    StoresTwo a x b y s ((s.memWrite a x).memWrite b y) := by
  have hq : ∀ {k}, inOam k = false ∨ (s.quiet = true ∧ a ≠ 0xFF46#16) →
      inOam k = false ∨ (s.memWrite a x).quiet = true :=
    fun h => h.imp id (fun h => State.memWrite_quiet h.2 h.1)
  have hq' : ∀ {k}, inOam k = false ∨ (s.quiet = true ∧ a ≠ 0xFF46#16) →
      inOam k = false ∨ s.quiet = true := fun h => h.imp id And.left
  refine ⟨fun k h hk => State.memWrite_stored h (hq hk), fun k h h' hk => ?_,
    fun k h h' hk => ?_, fun h h' => ?_⟩
  · rw [State.memWrite_other h' (hq hk), State.memWrite_stored h (hq' hk)]
  · rw [State.memWrite_other h' (hq hk), State.memWrite_other h (hq' hk)]
  · rw [(State.memWrite_stores b y _).settings h', (State.memWrite_stores a x s).settings h]

/-- A change of the CPU alone changes nothing a store says. -/
theorem Stores.onCpu {a : Word} {v : Byte} {s t : State} (h : Stores a v s t) (f : Cpu → Cpu) :
    Stores a v s (t.onCpu f) := ⟨h.written, h.kept, h.settings⟩

theorem StoresTwo.onCpu {a b : Word} {x y : Byte} {s t : State} (h : StoresTwo a x b y s t)
    (f : Cpu → Cpu) : StoresTwo a x b y s (t.onCpu f) := ⟨h.second, h.first, h.kept, h.settings⟩

/-- A state and the units' state it was made from by changing the CPU. -/
theorem State.sameUnits_of {u : State} (f : Cpu → Cpu) : State.SameUnits u (u.onCpu f) := rfl

/-! The stack. -/

/-- A word pushed: the two writes, and SP down by two. -/
theorem State.pushWord_eq (v : Word) (s : State) :
    s.pushWord v =
      ((s.memWrite (s.cpu.sp - 1#16) v.hi).memWrite (s.cpu.sp - 2#16) v.lo).onCpu
        (fun c => { c with sp := c.sp - 2#16 }) := by
  have h2 : ∀ w : Word, w - 1#16 - 1#16 = w - 2#16 := fun w => by rw [BitVec.sub_sub]; rfl
  simp only [State.pushWord, State.pushByte, State.memWrite_onCpu, State.onCpu_onCpu,
    State.onCpu_cpu, State.memWrite_cpu, h2]

/-- A word popped: the two reads, and SP up by two. -/
theorem State.popWord_eq (s : State) :
    s.popWord =
      (Word.ofBytes ((s.memRead s.cpu.sp).2.memRead (s.cpu.sp + 1#16)).1 (s.memRead s.cpu.sp).1,
        ((s.memRead s.cpu.sp).2.memRead (s.cpu.sp + 1#16)).2.onCpu
          (fun c => { c with sp := c.sp + 2#16 })) := by
  have h2 : ∀ w : Word, w + 1#16 + 1#16 = w + 2#16 := fun w => by rw [BitVec.add_assoc]; rfl
  simp only [State.popWord, State.popByte, State.memRead_onCpu, State.onCpu_onCpu,
    State.onCpu_cpu, State.memRead_cpu, h2]

end Sys2Proof.Machine
end

