-- ==== Sys2Proof/Laws/Decode.lean ====
section
/-! SUPPORT. What the decoder's parts do: how many bytes an opcode has after it, what three bytes decode
to, and how many bytes a decoded instruction fetches. -/

namespace Sys2Proof

open Machine

/-- An opcode has 0, 1 or 2 bytes after it that are fetched (rule R300). -/
theorem operandBytes_cases (op : Byte) :
    operandBytes op = 0 ∨ operandBytes op = 1 ∨ operandBytes op = 2 := by
  have h : ∀ o : Fin 256, operandBytes (BitVec.ofFin o) = 0 ∨ operandBytes (BitVec.ofFin o) = 1 ∨
      operandBytes (BitVec.ofFin o) = 2 := by decide +kernel
  exact h op.toFin

/-- A byte is its three fields (rule R301). -/
theorem fields_eq (op : Byte) :
    op = BitVec.ofNat 8 (64 * (fieldX op).val + 8 * (fieldY op).val + (fieldZ op).val) := by
  have h : ∀ o : Fin 256, BitVec.ofFin o = BitVec.ofNat 8 (64 * (fieldX (BitVec.ofFin o)).val +
      8 * (fieldY (BitVec.ofFin o)).val + (fieldZ (BitVec.ofFin o)).val) := by decide +kernel
  exact h op.toFin

/-- A CB row fetches two bytes. -/
theorem fetches_decodeCb (b : Byte) : (decodeCb b).fetches = 2 := by
  unfold decodeCb
  dsimp only
  generalize fieldX b = x; generalize fieldY b = y; generalize fieldZ b = z
  fin_cases z <;> fin_cases x <;> fin_cases y <;> rfl

theorem fetches_decodeX0 {y z : Fin 8} (n : Byte) (nn : Word) {op : Byte} (hx : fieldX op = 0)
    (hy : fieldY op = y) (hz : fieldZ op = z) :
    (decodeX0 y z n nn).fetches = 1 + operandBytes op := by
  unfold operandBytes
  rw [hx, hy, hz]
  fin_cases z <;> fin_cases y <;> rfl

theorem fetches_decodeX1 (y z : Fin 8) {op : Byte} (hx : fieldX op = 1) :
    (decodeX1 y z).fetches = 1 + operandBytes op := by
  unfold operandBytes
  rw [hx]
  fin_cases z <;> fin_cases y <;> rfl

theorem fetches_decodeX2 (y z : Fin 8) {op : Byte} (hx : fieldX op = 2) :
    (decodeX2 y z).fetches = 1 + operandBytes op := by
  unfold operandBytes
  rw [hx]
  fin_cases z <;> fin_cases y <;> rfl

theorem fetches_decodeX3 {y z : Fin 8} (n : Byte) (nn : Word) {op : Byte} (hx : fieldX op = 3)
    (hy : fieldY op = y) (hz : fieldZ op = z) (hp : ¬(y = 1 ∧ z = 3)) :
    (decodeX3 y z n nn).fetches = 1 + operandBytes op := by
  unfold operandBytes
  rw [hx, hy, hz]
  fin_cases z <;> fin_cases y <;> first | rfl | exact absurd ⟨rfl, rfl⟩ hp

theorem prefix_of_fields {op : Byte} (hx : fieldX op = 3) (hy : fieldY op = 1) (hz : fieldZ op = 3) :
    op = 0xCB#8 := by
  rw [fields_eq op, hx, hy, hz]; rfl

/-- A decoded instruction fetches its opcode and the bytes after it. -/
theorem fetches_decodeOp (op b1 b2 : Byte) : (decodeOp op b1 b2).fetches = 1 + operandBytes op := by
  unfold decodeOp
  split
  · rename_i h; rw [h, fetches_decodeCb]; rfl
  · rename_i h
    unfold decodePrimary
    generalize hx : fieldX op = x
    match x with
    | 0 => exact fetches_decodeX0 _ _ hx rfl rfl
    | 1 => exact fetches_decodeX1 _ _ hx
    | 2 => exact fetches_decodeX2 _ _ hx
    | 3 => exact fetches_decodeX3 _ _ hx rfl rfl (fun hc => h (prefix_of_fields hx hc.1 hc.2))

/-- What three bytes decode to. -/
theorem decode_three {op b1 b2 : Byte} {i : Instr} {rest : List Byte}
    (hd : decode [op, b1, b2] = .ok i rest) :
    i = decodeOp op (if operandBytes op = 0 then 0#8 else b1)
      (if operandBytes op = 2 then b2 else 0#8) := by
  unfold decode at hd
  dsimp only at hd
  by_cases ho : op = 0x10#8
  · rw [if_pos ho] at hd
    injection hd with hd _
    rw [← hd, ho]; rfl
  · rw [if_neg ho] at hd
    rcases operandBytes_cases op with h | h | h
    · rw [h] at hd; injection hd with hd _; rw [← hd, h]; rfl
    · rw [h] at hd; injection hd with hd _; rw [← hd, h]; rfl
    · rw [h] at hd; injection hd with hd _; rw [← hd, h]; rfl

/-- An instruction of format B3 is encoded by its opcode and its word, low byte first (rules R210, R300). -/
theorem encoded_word {op : Byte} (nn : Word) {i : Word → Instr} (h0 : op ≠ 0x10#8)
    (h : operandBytes op = 2) (he : ∀ nn, encode (i nn) = [op, nn.lo, nn.hi])
    (hd : ∀ n1 n2, decodeOp op n1 n2 = i (Word.ofBytes n2 n1)) :
    Encoded (i nn) [op, nn.lo, nn.hi] := by
  refine ⟨he nn, fun rest => ?_⟩
  simp [decode, h0, h, hd, Word.ofBytes_halves]

end Sys2Proof
end

