-- ==== Sys2Proof/Laws/Exec.lean ====
section
/-! SUPPORT. The instructions by shape: `exec` of the row a form's fields select, and the case split of
an instruction into its forms, so that no proof meets the 512 constructors one by one. -/

namespace Sys2Proof.Machine

/-! What `exec` does with each form. -/

theorem exec_ldReg (x : Reg8) (y : Reg8) (s : State) :
    exec (Instr.ldReg x y) s = .next (loadReg x (.reg y) s) := by
  cases x <;> cases y <;> rfl

theorem exec_ldRegImm (x : Reg8) (n : Byte) (s : State) :
    exec (Instr.ldRegImm x n) s = .next (loadReg x (.imm n) s) := by
  cases x <;> rfl

theorem exec_ldRegAtHl (x : Reg8) (s : State) :
    exec (Instr.ldRegAtHl x) s = .next (loadReg x .atHl s) := by
  cases x <;> rfl

theorem exec_ldAtHlReg (x : Reg8) (s : State) :
    exec (Instr.ldAtHlReg x) s = .next (store .hl (s.cpu.get x) s) := by
  cases x <;> rfl

theorem exec_aluReg (x : Alu) (y : Reg8) (s : State) :
    exec (Instr.aluReg x y) s = .next (aluOp x (.reg y) s) := by
  cases x <;> cases y <;> rfl

theorem exec_aluAtHl (x : Alu) (s : State) :
    exec (Instr.aluAtHl x) s = .next (aluOp x .atHl s) := by
  cases x <;> rfl

theorem exec_aluImm (x : Alu) (n : Byte) (s : State) :
    exec (Instr.aluImm x n) s = .next (aluOp x (.imm n) s) := by
  cases x <;> rfl

theorem exec_incReg (x : Reg8) (s : State) :
    exec (Instr.incReg x) s = .next (incReg x s) := by
  cases x <;> rfl

theorem exec_decReg (x : Reg8) (s : State) :
    exec (Instr.decReg x) s = .next (decReg x s) := by
  cases x <;> rfl

theorem exec_ldPair (x : Pair) (nn : Word) (s : State) :
    exec (Instr.ldPair x nn) s = .next (loadPair x nn s) := by
  cases x <;> rfl

theorem exec_addHlPair (x : Pair) (s : State) :
    exec (Instr.addHlPair x) s = .next (addHl x s) := by
  cases x <;> rfl

theorem exec_incPair (x : Pair) (s : State) :
    exec (Instr.incPair x) s = .next (incPair x s) := by
  cases x <;> rfl

theorem exec_decPair (x : Pair) (s : State) :
    exec (Instr.decPair x) s = .next (decPair x s) := by
  cases x <;> rfl

theorem exec_push (x : StackPair) (s : State) :
    exec (Instr.push x) s = .next (push x s) := by
  cases x <;> rfl

theorem exec_pop (x : StackPair) (s : State) :
    exec (Instr.pop x) s = .next (pop x s) := by
  cases x <;> rfl

theorem exec_jrCond (x : Cond) (e : Byte) (s : State) :
    exec (Instr.jrCond x e) s = .next (jumpRelIf x e s) := by
  cases x <;> rfl

theorem exec_jpCond (x : Cond) (nn : Word) (s : State) :
    exec (Instr.jpCond x nn) s = .next (jumpIf x nn s) := by
  cases x <;> rfl

theorem exec_callCond (x : Cond) (nn : Word) (s : State) :
    exec (Instr.callCond x nn) s = .next (callIf x nn s) := by
  cases x <;> rfl

theorem exec_retCond (x : Cond) (s : State) :
    exec (Instr.retCond x) s = .next (returnIf x s) := by
  cases x <;> rfl

theorem exec_rst (x : Fin 8) (s : State) :
    exec (Instr.rst x) s = .next (restart x.val s) := by
  fin_cases x <;> rfl

theorem exec_rotReg (x : Rot) (y : Reg8) (s : State) :
    exec (Instr.rotReg x y) s = .next (rotReg x y s) := by
  cases x <;> cases y <;> rfl

theorem exec_rotAtHl (x : Rot) (s : State) :
    exec (Instr.rotAtHl x) s = .next (rotAtHl x s) := by
  cases x <;> rfl

theorem exec_bitReg (x : Fin 8) (y : Reg8) (s : State) :
    exec (Instr.bitReg x y) s = .next (testBit x.val (.reg y) s) := by
  fin_cases x <;> cases y <;> rfl

theorem exec_bitAtHl (x : Fin 8) (s : State) :
    exec (Instr.bitAtHl x) s = .next (testBit x.val .atHl s) := by
  fin_cases x <;> rfl

theorem exec_resReg (x : Fin 8) (y : Reg8) (s : State) :
    exec (Instr.resReg x y) s = .next (resetBit x.val y s) := by
  fin_cases x <;> cases y <;> rfl

theorem exec_resAtHl (x : Fin 8) (s : State) :
    exec (Instr.resAtHl x) s = .next (resetBitAtHl x.val s) := by
  fin_cases x <;> rfl

theorem exec_setReg (x : Fin 8) (y : Reg8) (s : State) :
    exec (Instr.setReg x y) s = .next (setBit x.val y s) := by
  fin_cases x <;> cases y <;> rfl

theorem exec_setAtHl (x : Fin 8) (s : State) :
    exec (Instr.setAtHl x) s = .next (setBitAtHl x.val s) := by
  fin_cases x <;> rfl

/-! The case split. -/

/-- An instruction is a row that some form selects, or one of the others. -/
theorem Instr.byShape {motive : Instr → Prop}
    (h_ldReg : ∀ x y, motive (Instr.ldReg x y))
    (h_ldRegImm : ∀ x n, motive (Instr.ldRegImm x n))
    (h_ldRegAtHl : ∀ x, motive (Instr.ldRegAtHl x))
    (h_ldAtHlReg : ∀ x, motive (Instr.ldAtHlReg x))
    (h_aluReg : ∀ x y, motive (Instr.aluReg x y))
    (h_aluAtHl : ∀ x, motive (Instr.aluAtHl x))
    (h_aluImm : ∀ x n, motive (Instr.aluImm x n))
    (h_incReg : ∀ x, motive (Instr.incReg x))
    (h_decReg : ∀ x, motive (Instr.decReg x))
    (h_ldPair : ∀ x nn, motive (Instr.ldPair x nn))
    (h_addHlPair : ∀ x, motive (Instr.addHlPair x))
    (h_incPair : ∀ x, motive (Instr.incPair x))
    (h_decPair : ∀ x, motive (Instr.decPair x))
    (h_push : ∀ x, motive (Instr.push x))
    (h_pop : ∀ x, motive (Instr.pop x))
    (h_jrCond : ∀ x e, motive (Instr.jrCond x e))
    (h_jpCond : ∀ x nn, motive (Instr.jpCond x nn))
    (h_callCond : ∀ x nn, motive (Instr.callCond x nn))
    (h_retCond : ∀ x, motive (Instr.retCond x))
    (h_rst : ∀ x, motive (Instr.rst x))
    (h_rotReg : ∀ x y, motive (Instr.rotReg x y))
    (h_rotAtHl : ∀ x, motive (Instr.rotAtHl x))
    (h_bitReg : ∀ x y, motive (Instr.bitReg x y))
    (h_bitAtHl : ∀ x, motive (Instr.bitAtHl x))
    (h_resReg : ∀ x y, motive (Instr.resReg x y))
    (h_resAtHl : ∀ x, motive (Instr.resAtHl x))
    (h_setReg : ∀ x y, motive (Instr.setReg x y))
    (h_setAtHl : ∀ x, motive (Instr.setAtHl x))
    (h_nop : motive .nop)
    (h_ldAtBcA : motive .ldAtBcA)
    (h_rlca : motive .rlca)
    (h_ldAtNnSp : ∀ nn, motive (.ldAtNnSp nn))
    (h_ldAAtBc : motive .ldAAtBc)
    (h_rrca : motive .rrca)
    (h_stop : motive .stop)
    (h_ldAtDeA : motive .ldAtDeA)
    (h_rla : motive .rla)
    (h_jrOff : ∀ e, motive (.jrOff e))
    (h_ldAAtDe : motive .ldAAtDe)
    (h_rra : motive .rra)
    (h_ldAtHliA : motive .ldAtHliA)
    (h_daa : motive .daa)
    (h_ldAAtHli : motive .ldAAtHli)
    (h_cpl : motive .cpl)
    (h_ldAtHldA : motive .ldAtHldA)
    (h_incAtHl : motive .incAtHl)
    (h_decAtHl : motive .decAtHl)
    (h_ldAtHlN : ∀ n, motive (.ldAtHlN n))
    (h_scf : motive .scf)
    (h_ldAAtHld : motive .ldAAtHld)
    (h_ccf : motive .ccf)
    (h_halt : motive .halt)
    (h_jpNn : ∀ nn, motive (.jpNn nn))
    (h_ret : motive .ret)
    (h_prefixCb : motive .prefixCb)
    (h_callNn : ∀ nn, motive (.callNn nn))
    (h_illegalD3 : motive .illegalD3)
    (h_reti : motive .reti)
    (h_illegalDB : motive .illegalDB)
    (h_illegalDD : motive .illegalDD)
    (h_ldhAtNA : ∀ n, motive (.ldhAtNA n))
    (h_ldhAtCA : motive .ldhAtCA)
    (h_illegalE3 : motive .illegalE3)
    (h_illegalE4 : motive .illegalE4)
    (h_addSpOff : ∀ e, motive (.addSpOff e))
    (h_jpHl : motive .jpHl)
    (h_ldAtNnA : ∀ nn, motive (.ldAtNnA nn))
    (h_illegalEB : motive .illegalEB)
    (h_illegalEC : motive .illegalEC)
    (h_illegalED : motive .illegalED)
    (h_ldhAAtN : ∀ n, motive (.ldhAAtN n))
    (h_ldhAAtC : motive .ldhAAtC)
    (h_di : motive .di)
    (h_illegalF4 : motive .illegalF4)
    (h_ldHlSpOff : ∀ e, motive (.ldHlSpOff e))
    (h_ldSpHl : motive .ldSpHl)
    (h_ldAAtNn : ∀ nn, motive (.ldAAtNn nn))
    (h_ei : motive .ei)
    (h_illegalFC : motive .illegalFC)
    (h_illegalFD : motive .illegalFD)
    (i : Instr) : motive i := by
  cases i with
  | nop => exact h_nop
  | ldBcNn nn => exact h_ldPair .bc nn
  | ldAtBcA => exact h_ldAtBcA
  | incBc => exact h_incPair .bc
  | incB => exact h_incReg .b
  | decB => exact h_decReg .b
  | ldBN n => exact h_ldRegImm .b n
  | rlca => exact h_rlca
  | ldAtNnSp nn => exact h_ldAtNnSp nn
  | addHlBc => exact h_addHlPair .bc
  | ldAAtBc => exact h_ldAAtBc
  | decBc => exact h_decPair .bc
  | incC => exact h_incReg .c
  | decC => exact h_decReg .c
  | ldCN n => exact h_ldRegImm .c n
  | rrca => exact h_rrca
  | stop => exact h_stop
  | ldDeNn nn => exact h_ldPair .de nn
  | ldAtDeA => exact h_ldAtDeA
  | incDe => exact h_incPair .de
  | incD => exact h_incReg .d
  | decD => exact h_decReg .d
  | ldDN n => exact h_ldRegImm .d n
  | rla => exact h_rla
  | jrOff e => exact h_jrOff e
  | addHlDe => exact h_addHlPair .de
  | ldAAtDe => exact h_ldAAtDe
  | decDe => exact h_decPair .de
  | incE => exact h_incReg .e
  | decE => exact h_decReg .e
  | ldEN n => exact h_ldRegImm .e n
  | rra => exact h_rra
  | jrNzOff e => exact h_jrCond .nz e
  | ldHlNn nn => exact h_ldPair .hl nn
  | ldAtHliA => exact h_ldAtHliA
  | incHl => exact h_incPair .hl
  | incH => exact h_incReg .h
  | decH => exact h_decReg .h
  | ldHN n => exact h_ldRegImm .h n
  | daa => exact h_daa
  | jrZOff e => exact h_jrCond .z e
  | addHlHl => exact h_addHlPair .hl
  | ldAAtHli => exact h_ldAAtHli
  | decHl => exact h_decPair .hl
  | incL => exact h_incReg .l
  | decL => exact h_decReg .l
  | ldLN n => exact h_ldRegImm .l n
  | cpl => exact h_cpl
  | jrNcOff e => exact h_jrCond .nc e
  | ldSpNn nn => exact h_ldPair .sp nn
  | ldAtHldA => exact h_ldAtHldA
  | incSp => exact h_incPair .sp
  | incAtHl => exact h_incAtHl
  | decAtHl => exact h_decAtHl
  | ldAtHlN n => exact h_ldAtHlN n
  | scf => exact h_scf
  | jrCOff e => exact h_jrCond .c e
  | addHlSp => exact h_addHlPair .sp
  | ldAAtHld => exact h_ldAAtHld
  | decSp => exact h_decPair .sp
  | incA => exact h_incReg .a
  | decA => exact h_decReg .a
  | ldAN n => exact h_ldRegImm .a n
  | ccf => exact h_ccf
  | ldBB => exact h_ldReg .b .b
  | ldBC => exact h_ldReg .b .c
  | ldBD => exact h_ldReg .b .d
  | ldBE => exact h_ldReg .b .e
  | ldBH => exact h_ldReg .b .h
  | ldBL => exact h_ldReg .b .l
  | ldBAtHl => exact h_ldRegAtHl .b
  | ldBA => exact h_ldReg .b .a
  | ldCB => exact h_ldReg .c .b
  | ldCC => exact h_ldReg .c .c
  | ldCD => exact h_ldReg .c .d
  | ldCE => exact h_ldReg .c .e
  | ldCH => exact h_ldReg .c .h
  | ldCL => exact h_ldReg .c .l
  | ldCAtHl => exact h_ldRegAtHl .c
  | ldCA => exact h_ldReg .c .a
  | ldDB => exact h_ldReg .d .b
  | ldDC => exact h_ldReg .d .c
  | ldDD => exact h_ldReg .d .d
  | ldDE => exact h_ldReg .d .e
  | ldDH => exact h_ldReg .d .h
  | ldDL => exact h_ldReg .d .l
  | ldDAtHl => exact h_ldRegAtHl .d
  | ldDA => exact h_ldReg .d .a
  | ldEB => exact h_ldReg .e .b
  | ldEC => exact h_ldReg .e .c
  | ldED => exact h_ldReg .e .d
  | ldEE => exact h_ldReg .e .e
  | ldEH => exact h_ldReg .e .h
  | ldEL => exact h_ldReg .e .l
  | ldEAtHl => exact h_ldRegAtHl .e
  | ldEA => exact h_ldReg .e .a
  | ldHB => exact h_ldReg .h .b
  | ldHC => exact h_ldReg .h .c
  | ldHD => exact h_ldReg .h .d
  | ldHE => exact h_ldReg .h .e
  | ldHH => exact h_ldReg .h .h
  | ldHL => exact h_ldReg .h .l
  | ldHAtHl => exact h_ldRegAtHl .h
  | ldHA => exact h_ldReg .h .a
  | ldLB => exact h_ldReg .l .b
  | ldLC => exact h_ldReg .l .c
  | ldLD => exact h_ldReg .l .d
  | ldLE => exact h_ldReg .l .e
  | ldLH => exact h_ldReg .l .h
  | ldLL => exact h_ldReg .l .l
  | ldLAtHl => exact h_ldRegAtHl .l
  | ldLA => exact h_ldReg .l .a
  | ldAtHlB => exact h_ldAtHlReg .b
  | ldAtHlC => exact h_ldAtHlReg .c
  | ldAtHlD => exact h_ldAtHlReg .d
  | ldAtHlE => exact h_ldAtHlReg .e
  | ldAtHlH => exact h_ldAtHlReg .h
  | ldAtHlL => exact h_ldAtHlReg .l
  | halt => exact h_halt
  | ldAtHlA => exact h_ldAtHlReg .a
  | ldAB => exact h_ldReg .a .b
  | ldAC => exact h_ldReg .a .c
  | ldAD => exact h_ldReg .a .d
  | ldAE => exact h_ldReg .a .e
  | ldAH => exact h_ldReg .a .h
  | ldAL => exact h_ldReg .a .l
  | ldAAtHl => exact h_ldRegAtHl .a
  | ldAA => exact h_ldReg .a .a
  | addAB => exact h_aluReg .add .b
  | addAC => exact h_aluReg .add .c
  | addAD => exact h_aluReg .add .d
  | addAE => exact h_aluReg .add .e
  | addAH => exact h_aluReg .add .h
  | addAL => exact h_aluReg .add .l
  | addAAtHl => exact h_aluAtHl .add
  | addAA => exact h_aluReg .add .a
  | adcAB => exact h_aluReg .adc .b
  | adcAC => exact h_aluReg .adc .c
  | adcAD => exact h_aluReg .adc .d
  | adcAE => exact h_aluReg .adc .e
  | adcAH => exact h_aluReg .adc .h
  | adcAL => exact h_aluReg .adc .l
  | adcAAtHl => exact h_aluAtHl .adc
  | adcAA => exact h_aluReg .adc .a
  | subB => exact h_aluReg .sub .b
  | subC => exact h_aluReg .sub .c
  | subD => exact h_aluReg .sub .d
  | subE => exact h_aluReg .sub .e
  | subH => exact h_aluReg .sub .h
  | subL => exact h_aluReg .sub .l
  | subAtHl => exact h_aluAtHl .sub
  | subA => exact h_aluReg .sub .a
  | sbcAB => exact h_aluReg .sbc .b
  | sbcAC => exact h_aluReg .sbc .c
  | sbcAD => exact h_aluReg .sbc .d
  | sbcAE => exact h_aluReg .sbc .e
  | sbcAH => exact h_aluReg .sbc .h
  | sbcAL => exact h_aluReg .sbc .l
  | sbcAAtHl => exact h_aluAtHl .sbc
  | sbcAA => exact h_aluReg .sbc .a
  | andB => exact h_aluReg .and .b
  | andC => exact h_aluReg .and .c
  | andD => exact h_aluReg .and .d
  | andE => exact h_aluReg .and .e
  | andH => exact h_aluReg .and .h
  | andL => exact h_aluReg .and .l
  | andAtHl => exact h_aluAtHl .and
  | andA => exact h_aluReg .and .a
  | xorB => exact h_aluReg .xor .b
  | xorC => exact h_aluReg .xor .c
  | xorD => exact h_aluReg .xor .d
  | xorE => exact h_aluReg .xor .e
  | xorH => exact h_aluReg .xor .h
  | xorL => exact h_aluReg .xor .l
  | xorAtHl => exact h_aluAtHl .xor
  | xorA => exact h_aluReg .xor .a
  | orB => exact h_aluReg .or .b
  | orC => exact h_aluReg .or .c
  | orD => exact h_aluReg .or .d
  | orE => exact h_aluReg .or .e
  | orH => exact h_aluReg .or .h
  | orL => exact h_aluReg .or .l
  | orAtHl => exact h_aluAtHl .or
  | orA => exact h_aluReg .or .a
  | cpB => exact h_aluReg .cp .b
  | cpC => exact h_aluReg .cp .c
  | cpD => exact h_aluReg .cp .d
  | cpE => exact h_aluReg .cp .e
  | cpH => exact h_aluReg .cp .h
  | cpL => exact h_aluReg .cp .l
  | cpAtHl => exact h_aluAtHl .cp
  | cpA => exact h_aluReg .cp .a
  | retNz => exact h_retCond .nz
  | popBc => exact h_pop .bc
  | jpNzNn nn => exact h_jpCond .nz nn
  | jpNn nn => exact h_jpNn nn
  | callNzNn nn => exact h_callCond .nz nn
  | pushBc => exact h_push .bc
  | addAN n => exact h_aluImm .add n
  | rst00 => exact h_rst 0
  | retZ => exact h_retCond .z
  | ret => exact h_ret
  | jpZNn nn => exact h_jpCond .z nn
  | prefixCb => exact h_prefixCb
  | callZNn nn => exact h_callCond .z nn
  | callNn nn => exact h_callNn nn
  | adcAN n => exact h_aluImm .adc n
  | rst08 => exact h_rst 1
  | retNc => exact h_retCond .nc
  | popDe => exact h_pop .de
  | jpNcNn nn => exact h_jpCond .nc nn
  | illegalD3 => exact h_illegalD3
  | callNcNn nn => exact h_callCond .nc nn
  | pushDe => exact h_push .de
  | subN n => exact h_aluImm .sub n
  | rst10 => exact h_rst 2
  | retC => exact h_retCond .c
  | reti => exact h_reti
  | jpCNn nn => exact h_jpCond .c nn
  | illegalDB => exact h_illegalDB
  | callCNn nn => exact h_callCond .c nn
  | illegalDD => exact h_illegalDD
  | sbcAN n => exact h_aluImm .sbc n
  | rst18 => exact h_rst 3
  | ldhAtNA n => exact h_ldhAtNA n
  | popHl => exact h_pop .hl
  | ldhAtCA => exact h_ldhAtCA
  | illegalE3 => exact h_illegalE3
  | illegalE4 => exact h_illegalE4
  | pushHl => exact h_push .hl
  | andN n => exact h_aluImm .and n
  | rst20 => exact h_rst 4
  | addSpOff e => exact h_addSpOff e
  | jpHl => exact h_jpHl
  | ldAtNnA nn => exact h_ldAtNnA nn
  | illegalEB => exact h_illegalEB
  | illegalEC => exact h_illegalEC
  | illegalED => exact h_illegalED
  | xorN n => exact h_aluImm .xor n
  | rst28 => exact h_rst 5
  | ldhAAtN n => exact h_ldhAAtN n
  | popAf => exact h_pop .af
  | ldhAAtC => exact h_ldhAAtC
  | di => exact h_di
  | illegalF4 => exact h_illegalF4
  | pushAf => exact h_push .af
  | orN n => exact h_aluImm .or n
  | rst30 => exact h_rst 6
  | ldHlSpOff e => exact h_ldHlSpOff e
  | ldSpHl => exact h_ldSpHl
  | ldAAtNn nn => exact h_ldAAtNn nn
  | ei => exact h_ei
  | illegalFC => exact h_illegalFC
  | illegalFD => exact h_illegalFD
  | cpN n => exact h_aluImm .cp n
  | rst38 => exact h_rst 7
  | rlcB => exact h_rotReg .rlc .b
  | rlcC => exact h_rotReg .rlc .c
  | rlcD => exact h_rotReg .rlc .d
  | rlcE => exact h_rotReg .rlc .e
  | rlcH => exact h_rotReg .rlc .h
  | rlcL => exact h_rotReg .rlc .l
  | rlcAtHl => exact h_rotAtHl .rlc
  | rlcA => exact h_rotReg .rlc .a
  | rrcB => exact h_rotReg .rrc .b
  | rrcC => exact h_rotReg .rrc .c
  | rrcD => exact h_rotReg .rrc .d
  | rrcE => exact h_rotReg .rrc .e
  | rrcH => exact h_rotReg .rrc .h
  | rrcL => exact h_rotReg .rrc .l
  | rrcAtHl => exact h_rotAtHl .rrc
  | rrcA => exact h_rotReg .rrc .a
  | rlB => exact h_rotReg .rl .b
  | rlC => exact h_rotReg .rl .c
  | rlD => exact h_rotReg .rl .d
  | rlE => exact h_rotReg .rl .e
  | rlH => exact h_rotReg .rl .h
  | rlL => exact h_rotReg .rl .l
  | rlAtHl => exact h_rotAtHl .rl
  | rlA => exact h_rotReg .rl .a
  | rrB => exact h_rotReg .rr .b
  | rrC => exact h_rotReg .rr .c
  | rrD => exact h_rotReg .rr .d
  | rrE => exact h_rotReg .rr .e
  | rrH => exact h_rotReg .rr .h
  | rrL => exact h_rotReg .rr .l
  | rrAtHl => exact h_rotAtHl .rr
  | rrA => exact h_rotReg .rr .a
  | slaB => exact h_rotReg .sla .b
  | slaC => exact h_rotReg .sla .c
  | slaD => exact h_rotReg .sla .d
  | slaE => exact h_rotReg .sla .e
  | slaH => exact h_rotReg .sla .h
  | slaL => exact h_rotReg .sla .l
  | slaAtHl => exact h_rotAtHl .sla
  | slaA => exact h_rotReg .sla .a
  | sraB => exact h_rotReg .sra .b
  | sraC => exact h_rotReg .sra .c
  | sraD => exact h_rotReg .sra .d
  | sraE => exact h_rotReg .sra .e
  | sraH => exact h_rotReg .sra .h
  | sraL => exact h_rotReg .sra .l
  | sraAtHl => exact h_rotAtHl .sra
  | sraA => exact h_rotReg .sra .a
  | swapB => exact h_rotReg .swap .b
  | swapC => exact h_rotReg .swap .c
  | swapD => exact h_rotReg .swap .d
  | swapE => exact h_rotReg .swap .e
  | swapH => exact h_rotReg .swap .h
  | swapL => exact h_rotReg .swap .l
  | swapAtHl => exact h_rotAtHl .swap
  | swapA => exact h_rotReg .swap .a
  | srlB => exact h_rotReg .srl .b
  | srlC => exact h_rotReg .srl .c
  | srlD => exact h_rotReg .srl .d
  | srlE => exact h_rotReg .srl .e
  | srlH => exact h_rotReg .srl .h
  | srlL => exact h_rotReg .srl .l
  | srlAtHl => exact h_rotAtHl .srl
  | srlA => exact h_rotReg .srl .a
  | bit0B => exact h_bitReg 0 .b
  | bit0C => exact h_bitReg 0 .c
  | bit0D => exact h_bitReg 0 .d
  | bit0E => exact h_bitReg 0 .e
  | bit0H => exact h_bitReg 0 .h
  | bit0L => exact h_bitReg 0 .l
  | bit0AtHl => exact h_bitAtHl 0
  | bit0A => exact h_bitReg 0 .a
  | bit1B => exact h_bitReg 1 .b
  | bit1C => exact h_bitReg 1 .c
  | bit1D => exact h_bitReg 1 .d
  | bit1E => exact h_bitReg 1 .e
  | bit1H => exact h_bitReg 1 .h
  | bit1L => exact h_bitReg 1 .l
  | bit1AtHl => exact h_bitAtHl 1
  | bit1A => exact h_bitReg 1 .a
  | bit2B => exact h_bitReg 2 .b
  | bit2C => exact h_bitReg 2 .c
  | bit2D => exact h_bitReg 2 .d
  | bit2E => exact h_bitReg 2 .e
  | bit2H => exact h_bitReg 2 .h
  | bit2L => exact h_bitReg 2 .l
  | bit2AtHl => exact h_bitAtHl 2
  | bit2A => exact h_bitReg 2 .a
  | bit3B => exact h_bitReg 3 .b
  | bit3C => exact h_bitReg 3 .c
  | bit3D => exact h_bitReg 3 .d
  | bit3E => exact h_bitReg 3 .e
  | bit3H => exact h_bitReg 3 .h
  | bit3L => exact h_bitReg 3 .l
  | bit3AtHl => exact h_bitAtHl 3
  | bit3A => exact h_bitReg 3 .a
  | bit4B => exact h_bitReg 4 .b
  | bit4C => exact h_bitReg 4 .c
  | bit4D => exact h_bitReg 4 .d
  | bit4E => exact h_bitReg 4 .e
  | bit4H => exact h_bitReg 4 .h
  | bit4L => exact h_bitReg 4 .l
  | bit4AtHl => exact h_bitAtHl 4
  | bit4A => exact h_bitReg 4 .a
  | bit5B => exact h_bitReg 5 .b
  | bit5C => exact h_bitReg 5 .c
  | bit5D => exact h_bitReg 5 .d
  | bit5E => exact h_bitReg 5 .e
  | bit5H => exact h_bitReg 5 .h
  | bit5L => exact h_bitReg 5 .l
  | bit5AtHl => exact h_bitAtHl 5
  | bit5A => exact h_bitReg 5 .a
  | bit6B => exact h_bitReg 6 .b
  | bit6C => exact h_bitReg 6 .c
  | bit6D => exact h_bitReg 6 .d
  | bit6E => exact h_bitReg 6 .e
  | bit6H => exact h_bitReg 6 .h
  | bit6L => exact h_bitReg 6 .l
  | bit6AtHl => exact h_bitAtHl 6
  | bit6A => exact h_bitReg 6 .a
  | bit7B => exact h_bitReg 7 .b
  | bit7C => exact h_bitReg 7 .c
  | bit7D => exact h_bitReg 7 .d
  | bit7E => exact h_bitReg 7 .e
  | bit7H => exact h_bitReg 7 .h
  | bit7L => exact h_bitReg 7 .l
  | bit7AtHl => exact h_bitAtHl 7
  | bit7A => exact h_bitReg 7 .a
  | res0B => exact h_resReg 0 .b
  | res0C => exact h_resReg 0 .c
  | res0D => exact h_resReg 0 .d
  | res0E => exact h_resReg 0 .e
  | res0H => exact h_resReg 0 .h
  | res0L => exact h_resReg 0 .l
  | res0AtHl => exact h_resAtHl 0
  | res0A => exact h_resReg 0 .a
  | res1B => exact h_resReg 1 .b
  | res1C => exact h_resReg 1 .c
  | res1D => exact h_resReg 1 .d
  | res1E => exact h_resReg 1 .e
  | res1H => exact h_resReg 1 .h
  | res1L => exact h_resReg 1 .l
  | res1AtHl => exact h_resAtHl 1
  | res1A => exact h_resReg 1 .a
  | res2B => exact h_resReg 2 .b
  | res2C => exact h_resReg 2 .c
  | res2D => exact h_resReg 2 .d
  | res2E => exact h_resReg 2 .e
  | res2H => exact h_resReg 2 .h
  | res2L => exact h_resReg 2 .l
  | res2AtHl => exact h_resAtHl 2
  | res2A => exact h_resReg 2 .a
  | res3B => exact h_resReg 3 .b
  | res3C => exact h_resReg 3 .c
  | res3D => exact h_resReg 3 .d
  | res3E => exact h_resReg 3 .e
  | res3H => exact h_resReg 3 .h
  | res3L => exact h_resReg 3 .l
  | res3AtHl => exact h_resAtHl 3
  | res3A => exact h_resReg 3 .a
  | res4B => exact h_resReg 4 .b
  | res4C => exact h_resReg 4 .c
  | res4D => exact h_resReg 4 .d
  | res4E => exact h_resReg 4 .e
  | res4H => exact h_resReg 4 .h
  | res4L => exact h_resReg 4 .l
  | res4AtHl => exact h_resAtHl 4
  | res4A => exact h_resReg 4 .a
  | res5B => exact h_resReg 5 .b
  | res5C => exact h_resReg 5 .c
  | res5D => exact h_resReg 5 .d
  | res5E => exact h_resReg 5 .e
  | res5H => exact h_resReg 5 .h
  | res5L => exact h_resReg 5 .l
  | res5AtHl => exact h_resAtHl 5
  | res5A => exact h_resReg 5 .a
  | res6B => exact h_resReg 6 .b
  | res6C => exact h_resReg 6 .c
  | res6D => exact h_resReg 6 .d
  | res6E => exact h_resReg 6 .e
  | res6H => exact h_resReg 6 .h
  | res6L => exact h_resReg 6 .l
  | res6AtHl => exact h_resAtHl 6
  | res6A => exact h_resReg 6 .a
  | res7B => exact h_resReg 7 .b
  | res7C => exact h_resReg 7 .c
  | res7D => exact h_resReg 7 .d
  | res7E => exact h_resReg 7 .e
  | res7H => exact h_resReg 7 .h
  | res7L => exact h_resReg 7 .l
  | res7AtHl => exact h_resAtHl 7
  | res7A => exact h_resReg 7 .a
  | set0B => exact h_setReg 0 .b
  | set0C => exact h_setReg 0 .c
  | set0D => exact h_setReg 0 .d
  | set0E => exact h_setReg 0 .e
  | set0H => exact h_setReg 0 .h
  | set0L => exact h_setReg 0 .l
  | set0AtHl => exact h_setAtHl 0
  | set0A => exact h_setReg 0 .a
  | set1B => exact h_setReg 1 .b
  | set1C => exact h_setReg 1 .c
  | set1D => exact h_setReg 1 .d
  | set1E => exact h_setReg 1 .e
  | set1H => exact h_setReg 1 .h
  | set1L => exact h_setReg 1 .l
  | set1AtHl => exact h_setAtHl 1
  | set1A => exact h_setReg 1 .a
  | set2B => exact h_setReg 2 .b
  | set2C => exact h_setReg 2 .c
  | set2D => exact h_setReg 2 .d
  | set2E => exact h_setReg 2 .e
  | set2H => exact h_setReg 2 .h
  | set2L => exact h_setReg 2 .l
  | set2AtHl => exact h_setAtHl 2
  | set2A => exact h_setReg 2 .a
  | set3B => exact h_setReg 3 .b
  | set3C => exact h_setReg 3 .c
  | set3D => exact h_setReg 3 .d
  | set3E => exact h_setReg 3 .e
  | set3H => exact h_setReg 3 .h
  | set3L => exact h_setReg 3 .l
  | set3AtHl => exact h_setAtHl 3
  | set3A => exact h_setReg 3 .a
  | set4B => exact h_setReg 4 .b
  | set4C => exact h_setReg 4 .c
  | set4D => exact h_setReg 4 .d
  | set4E => exact h_setReg 4 .e
  | set4H => exact h_setReg 4 .h
  | set4L => exact h_setReg 4 .l
  | set4AtHl => exact h_setAtHl 4
  | set4A => exact h_setReg 4 .a
  | set5B => exact h_setReg 5 .b
  | set5C => exact h_setReg 5 .c
  | set5D => exact h_setReg 5 .d
  | set5E => exact h_setReg 5 .e
  | set5H => exact h_setReg 5 .h
  | set5L => exact h_setReg 5 .l
  | set5AtHl => exact h_setAtHl 5
  | set5A => exact h_setReg 5 .a
  | set6B => exact h_setReg 6 .b
  | set6C => exact h_setReg 6 .c
  | set6D => exact h_setReg 6 .d
  | set6E => exact h_setReg 6 .e
  | set6H => exact h_setReg 6 .h
  | set6L => exact h_setReg 6 .l
  | set6AtHl => exact h_setAtHl 6
  | set6A => exact h_setReg 6 .a
  | set7B => exact h_setReg 7 .b
  | set7C => exact h_setReg 7 .c
  | set7D => exact h_setReg 7 .d
  | set7E => exact h_setReg 7 .e
  | set7H => exact h_setReg 7 .h
  | set7L => exact h_setReg 7 .l
  | set7AtHl => exact h_setAtHl 7
  | set7A => exact h_setReg 7 .a

end Sys2Proof.Machine
end

