-- ==== Sys2Proof/Laws/Map.lean ====
section
/-! SUPPORT. The bus decode, one lemma a target: what a CPU read gives and what a CPU write does when no
DMA blocks it. -/

namespace Sys2Proof.Machine

theorem decodeAddr_cartridge {n : Nat} (h : n < 0x8000 ∨ 0xA000 ≤ n ∧ n < 0xC000) :
    decodeAddr n = .cartridge := by
  unfold decodeAddr; split_ifs <;> first | rfl | omega

theorem decodeAddr_vram {n : Nat} (h : 0x8000 ≤ n) (h' : n < 0xA000) : decodeAddr n = .vram := by
  unfold decodeAddr; split_ifs <;> first | rfl | omega

theorem decodeAddr_wram {n : Nat} (h : 0xC000 ≤ n) (h' : n < 0xE000) : decodeAddr n = .wram := by
  unfold decodeAddr; split_ifs <;> first | rfl | omega

theorem decodeAddr_echo {n : Nat} (h : 0xE000 ≤ n) (h' : n < 0xFE00) : decodeAddr n = .echo := by
  unfold decodeAddr; split_ifs <;> first | rfl | omega

theorem decodeAddr_oam {n : Nat} (h : 0xFE00 ≤ n) (h' : n < 0xFEA0) : decodeAddr n = .oam := by
  unfold decodeAddr; split_ifs <;> first | rfl | omega

theorem decodeAddr_unusable {n : Nat} (h : 0xFEA0 ≤ n) (h' : n < 0xFF00) :
    decodeAddr n = .unusable := by
  unfold decodeAddr; split_ifs <;> first | rfl | omega

theorem decodeAddr_io {n : Nat} (h : 0xFF00 ≤ n) (h' : n < 0xFF80) : decodeAddr n = .io := by
  unfold decodeAddr; split_ifs <;> first | rfl | omega

theorem decodeAddr_hram {n : Nat} (h : 0xFF80 ≤ n) (h' : n < 0xFFFF) : decodeAddr n = .hram := by
  unfold decodeAddr; split_ifs <;> first | rfl | omega

/-- The APU's addresses (rule R872). -/
theorem ioReg_apu {n : Nat} (h : 0xFF10 ≤ n) (h' : n < 0xFF40) : ioReg n = .apu := by
  have hk : ∀ k : Fin 48, ioReg (0xFF10 + k.val) = .apu := by decide +kernel
  have := hk ⟨n - 0xFF10, by omega⟩
  rwa [show 0xFF10 + (⟨n - 0xFF10, by omega⟩ : Fin 48).val = n by
    show 0xFF10 + (n - 0xFF10) = n; omega] at this

/-- The addresses above WX with no owner but 0xFF50's (rule R873). -/
theorem ioReg_high {n : Nat} (h : 0xFF4C ≤ n) (h' : n < 0xFF80) (hb : n ≠ 0xFF50) :
    ioReg n = .unmapped := by
  have hk : ∀ k : Fin 52, 0xFF4C + k.val ≠ 0xFF50 → ioReg (0xFF4C + k.val) = .unmapped := by
    decide +kernel
  have := hk ⟨n - 0xFF4C, by omega⟩
  rw [show 0xFF4C + (⟨n - 0xFF4C, by omega⟩ : Fin 52).val = n by
    show 0xFF4C + (n - 0xFF4C) = n; omega] at this
  exact this hb

/-- While no DMA runs no access is blocked by one (rule R232). -/
theorem State.dmaBlocks_idle (n : Nat) {s : State} (h : s.dma.active = false) :
    s.dmaBlocks n = false := by
  simp [State.dmaBlocks, h]

/-- HRAM is never blocked (rule R232). -/
theorem State.dmaBlocks_hram {n : Nat} (s : State) (h : 0xFF80 ≤ n) (h' : n < 0xFFFF) :
    s.dmaBlocks n = false := by
  simp [State.dmaBlocks, inHram, h, h']

variable {a : Word} {v : Byte} {s : State}

/-- A blocked access (rule R232): the read gives 0xFF and the write is dropped. -/
theorem State.bus_blocked (h : s.dmaBlocks a.toNat = true) :
    s.busRead a = (0xFF#8, s) ∧ s.busWrite a v = s := by
  unfold State.busRead State.busWrite
  dsimp only
  rw [if_pos h, if_pos h]
  exact ⟨rfl, rfl⟩

theorem State.busRead_free (h : s.dmaBlocks a.toNat = false) {t : Target} :
    decodeAddr a.toNat = t → s.busRead a = match t with
      | .cartridge => s.romRead a.toNat
      | .vram => (if s.ppu.vramBlocked then 0xFF#8 else s.byteAt a.toNat, s)
      | .wram => (s.byteAt a.toNat, s)
      | .echo => (s.byteAt (a.toNat - 0x2000), s)
      | .oam => (if s.ppu.oamBlocked then 0xFF#8 else s.byteAt a.toNat, s)
      | .unusable => (0xFF#8, s)
      | .io => (s.ioRead a.toNat, s)
      | .hram => (s.byteAt a.toNat, s)
      | .ie => (Interrupts.reads s.irq.ie, s) := by
  intro ht
  subst ht
  unfold State.busRead
  dsimp only
  rw [if_neg (by simp [h])]
  rfl

/-- What a write stores (rules R201, R220, R221), no DMA blocking it. -/
theorem State.storeKey_free (h : s.dmaBlocks a.toNat = false) {t : Target} :
    decodeAddr a.toNat = t → s.storeKey a = match t with
      | .cartridge =>
        match s.cart with
        | .noMbc ram => if inCartRam a.toNat && ram then some a.toNat else none
        | .device _ => none
      | .vram => if s.ppu.vramBlocked then none else some a.toNat
      | .wram => some a.toNat
      | .echo => some (a.toNat - 0x2000)
      | .oam => if s.ppu.oamBlocked then none else some a.toNat
      | .unusable => none
      | .io => none
      | .hram => some a.toNat
      | .ie => none := by
  intro ht
  subst ht
  unfold State.storeKey
  dsimp only
  refine (if_neg (by simp [h])).trans ?_
  cases decodeAddr a.toNat <;> rfl

/-- A write memory does not take goes to its register, or nowhere (rules R201, R203). -/
theorem State.busWrite_none (h : s.dmaBlocks a.toNat = false) (hk : s.storeKey a = none) {t : Target} :
    decodeAddr a.toNat = t → s.busWrite a v = match t with
      | .cartridge => s.cartNotify a.toNat v
      | .vram => s
      | .wram => s
      | .echo => s
      | .oam => s
      | .unusable => s
      | .io => s.ioWrite a.toNat v
      | .hram => s
      | .ie => { s with irq := s.irq.writeIe v } := by
  intro ht
  subst ht
  unfold State.busWrite
  rw [if_neg (by simp [h]), hk]
  rfl

/-- A read of an I/O register, no DMA running (rule R203). -/
theorem State.busRead_io (hd : s.dma.active = false) (h : 0xFF00 ≤ a.toNat) (h' : a.toNat < 0xFF80) :
    s.busRead a = (s.ioRead a.toNat, s) :=
  State.busRead_free (State.dmaBlocks_idle _ hd) (decodeAddr_io h h')

/-- A write of an I/O register, no DMA running (rule R203). -/
theorem State.busWrite_io (hd : s.dma.active = false) (h : 0xFF00 ≤ a.toNat) (h' : a.toNat < 0xFF80) :
    s.busWrite a v = s.ioWrite a.toNat v :=
  State.busWrite_none (State.dmaBlocks_idle _ hd)
    (State.storeKey_free (State.dmaBlocks_idle _ hd) (decodeAddr_io h h')) (decodeAddr_io h h')

end Sys2Proof.Machine
end

