-- ==== Sys2Proof/Laws/PpuPlace.lean ====
section
/-! SUPPORT. Where the PPU is: mode 3's work leaves its position, its mode, its sprite list and its STAT
line alone; the
position a step comes to, the modes, and the requests it raises. -/

namespace Sys2Proof.Machine

/-- What a mode-3 dot leaves alone. -/
def Ppu.still (p : Ppu) : (Byte × BitVec 4 × Byte × Byte × Byte × Byte × Byte × Byte × Byte × Byte) ×
    Nat × Nat × Nat × List Nat × Bool × Bool × Nat × Mode :=
  (p.regs, p.line, p.dot, p.wline, p.sprites, p.statline, p.skipframe, p.frames, p.mode)

theorem Ppu.still_ite {c : Prop} [Decidable c] {p q r : Ppu} (h : q.still = p.still)
    (h' : r.still = p.still) : (if c then q else r).still = p.still := by
  split <;> assumption

@[simp] theorem Ppu.still_countDot (n : Nat) (t : FetchState) (p : Ppu) :
    (p.countDot n t).still = p.still := Ppu.still_ite rfl rfl

@[simp] theorem Ppu.still_readTileNumber (mem : Memory) (p : Ppu) :
    (p.readTileNumber mem).still = p.still := Ppu.still_ite rfl rfl

@[simp] theorem Ppu.still_readTileLow (mem : Memory) (p : Ppu) :
    (p.readTileLow mem).still = p.still := Ppu.still_ite rfl rfl

@[simp] theorem Ppu.still_readTileHigh (mem : Memory) (p : Ppu) :
    (p.readTileHigh mem).still = p.still := Ppu.still_ite rfl rfl

@[simp] theorem Ppu.still_pushRow (p : Ppu) : p.pushRow.still = p.still := Ppu.still_ite rfl rfl

@[simp] theorem Ppu.still_fetcherStep (mem : Memory) (p : Ppu) :
    (p.fetcherStep mem).still = p.still := by
  unfold Ppu.fetcherStep
  split <;> simp

@[simp] theorem Ppu.still_mergePixel (x : Nat) (v : SpritePixel) (p : Ppu) :
    (p.mergePixel x v).still = p.still := by
  unfold Ppu.mergePixel
  refine Ppu.still_ite rfl ?_
  dsimp only
  split
  · exact Ppu.still_ite rfl rfl
  · rfl

@[simp] theorem Ppu.still_mergeRow (x : Nat) (attr hi lo : Byte) (n k : Nat) (p : Ppu) :
    (Ppu.mergeRow x attr hi lo n k p).still = p.still := by
  induction n generalizing k p with
  | zero => rfl
  | succ n ih => simp [Ppu.mergeRow, ih]

@[simp] theorem Ppu.still_spriteFetch (mem : Memory) (n : Nat) (p : Ppu) :
    (p.spriteFetch mem n).still = p.still := by simp [Ppu.spriteFetch]

@[simp] theorem Ppu.still_pixelStep (mem : Memory) (p : Ppu) : (p.pixelStep mem).still = p.still := by
  unfold Ppu.pixelStep
  split
  · rfl
  · refine Ppu.still_ite rfl (Ppu.still_ite rfl ?_)
    split <;> rfl

@[simp] theorem Ppu.still_mode3Dot (mem : Memory) (p : Ppu) : (p.mode3Dot mem).still = p.still := by
  unfold Ppu.mode3Dot
  refine Ppu.still_ite (by simp) (Ppu.still_ite ?_ rfl)
  rw [Ppu.still_spriteFetch]
  rfl

/-! The whole step. -/

/-- What the work of a dot leaves alone: the position and the STAT line. -/
def Ppu.place (p : Ppu) : Nat × Nat × Bool := (p.line, p.dot, p.statline)

theorem Ppu.place_ite {c : Prop} [Decidable c] {p q r : Ppu} (h : q.place = p.place)
    (h' : r.place = p.place) : (if c then q else r).place = p.place := by
  split <;> assumption

theorem Ppu.place_of_still {p q : Ppu} (h : q.still = p.still) : q.place = p.place := by
  simp only [Ppu.still, Prod.mk.injEq] at h
  simp [Ppu.place, h]

@[simp] theorem Ppu.place_modeWork (mem : Memory) (p : Ppu) : (p.modeWork mem).place = p.place := by
  unfold Ppu.modeWork
  split
  · exact Ppu.place_ite rfl rfl
  · exact Ppu.place_ite rfl (Ppu.place_of_still (Ppu.still_mode3Dot mem p))
  · rfl
  · rfl

@[simp] theorem Ppu.place_enterScan (p : Ppu) : p.enterScan.place = p.place := Ppu.place_ite rfl rfl

@[simp] theorem Ppu.place_enterDrawing (p : Ppu) : p.enterDrawing.place = p.place :=
  Ppu.place_ite rfl rfl

@[simp] theorem Ppu.place_enterVblank (p : Ppu) : p.enterVblank.place = p.place :=
  Ppu.place_ite rfl rfl

@[simp] theorem Ppu.place_restartWindowLines (p : Ppu) : p.restartWindowLines.place = p.place :=
  Ppu.place_ite rfl rfl

@[simp] theorem Ppu.place_dotWork (mem : Memory) (p : Ppu) : (p.dotWork mem).1.place = p.place := by
  simp [Ppu.dotWork, Ppu.enterDot]

@[simp] theorem Ppu.dotWork_line (mem : Memory) (p : Ppu) : (p.dotWork mem).1.line = p.line :=
  congrArg (·.1) (Ppu.place_dotWork mem p)

@[simp] theorem Ppu.dotWork_dot (mem : Memory) (p : Ppu) : (p.dotWork mem).1.dot = p.dot :=
  congrArg (·.2.1) (Ppu.place_dotWork mem p)

@[simp] theorem Ppu.dotWork_statline (mem : Memory) (p : Ppu) :
    (p.dotWork mem).1.statline = p.statline :=
  congrArg (·.2.2) (Ppu.place_dotWork mem p)

/-- The next dot, on this line or at the start of the next (rule R800). -/
theorem Ppu.advance_place {p : Ppu} (hl : p.line ≤ 153) (hd : p.dot ≤ 455) :
    456 * p.advance.line + p.advance.dot = (456 * p.line + p.dot + 1) % 70224 ∧
    p.advance.line ≤ 153 ∧ p.advance.dot ≤ 455 := by
  unfold Ppu.advance Config.dotsPerLine Config.linesPerFrame
  split
  · dsimp only
    split <;> omega
  · dsimp only
    omega

/-- The LCD off: nothing happens (rule R860). -/
theorem Ppu.step_off {p : Ppu} (mem : Memory) (h : p.lcdOn = false) :
    p.step mem = (p, false, false) := by
  simp [Ppu.step, h]

/-- The LCD on: the dot's work and the STAT line (rule R800). -/
theorem Ppu.step_on {p : Ppu} (mem : Memory) (h : p.lcdOn = true) :
    p.step mem = (((p.advance.dotWork mem).1.updateStat).1, p.advance.vblankStarts,
      ((p.advance.dotWork mem).1.updateStat).2) := by
  simp only [Ppu.step, h, if_true]
  rfl

/-- The position a step comes to (rule R800). -/
theorem Ppu.step_line {p : Ppu} (mem : Memory) (h : p.lcdOn = true) :
    (p.step mem).1.line = p.advance.line := by
  rw [Ppu.step_on mem h]; simp [Ppu.updateStat]

theorem Ppu.step_dot {p : Ppu} (mem : Memory) (h : p.lcdOn = true) :
    (p.step mem).1.dot = p.advance.dot := by
  rw [Ppu.step_on mem h]; simp [Ppu.updateStat]

@[simp] theorem Ppu.step_lcdc (mem : Memory) (p : Ppu) : (p.step mem).1.lcdc = p.lcdc :=
  Ppu.lcdc_of_regs (Ppu.regs_step mem p)

@[simp] theorem Ppu.step_lcdOn (mem : Memory) (p : Ppu) : (p.step mem).1.lcdOn = p.lcdOn := by
  unfold Ppu.lcdOn; rw [Ppu.step_lcdc]

/-- The STAT line after a step is its level there, and the request is its rise (rule R823). -/
theorem Ppu.step_stat {p : Ppu} (mem : Memory) (h : p.lcdOn = true) :
    (p.step mem).1.statline = (p.step mem).1.statLevel ∧
    (p.step mem).2.2 = (!p.statline && (p.step mem).1.statLevel) := by
  have hs : p.advance.statline = p.statline := by
    unfold Ppu.advance; split <;> rfl
  have hw := (Ppu.dotWork_statline mem p.advance).trans hs
  rw [Ppu.step_on mem h]
  generalize (p.advance.dotWork mem).1 = q at hw
  exact ⟨rfl, by simp only [Ppu.updateStat, hw]; rfl⟩

end Sys2Proof.Machine
end

