-- ==== Sys2Proof/Laws/PpuInv.lean ====
section
/-! SUPPORT. The PPU's invariant: the parts that do not depend on the position, the pace of mode 3, and the
whole of it over a step, a reset and the CPU's writes. -/

namespace Sys2Proof.Machine

/-- The part of the PPU's invariant that speaks neither of the position nor of the mode. -/
structure Ppu.Parts (p : Ppu) : Prop where
  columns : p.xOut ≤ 160
  sprites : p.sprites.length ≤ 10
  indices : ∀ n ∈ p.sprites, n < 40
  cursor : p.scur < 40
  bgFifo : p.bgq.length ≤ 16
  spFifo : p.spq.length ≤ 16
  fdot : p.fdot ≤ p.fdotBound
  latch : p.LatchOk
  fbWf : Cells.wf p.fb = true
  fbKeys : Cells.keysIn (fun k => decide (k < 160 * 144)) p.fb = true

theorem Ppu.Inv.parts {p : Ppu} (h : p.Inv) : p.Parts :=
  ⟨h.columns, h.sprites, h.indices, h.cursor, h.bgFifo, h.spFifo, h.fdot, h.latch, h.fbWf, h.fbKeys⟩

/-- The invariant from its parts and what the position and the mode give. -/
theorem Ppu.Inv.of_parts {p : Ppu} (h : p.Parts) (hl : p.line ≤ 153) (hd : p.dot ≤ 455)
    (ho : p.lcdOn = false → p.line = 0 ∧ p.dot = 0 ∧ p.mode = .hblank)
    (hm : p.lcdOn = true → legalMode p.line p.dot p.mode)
    (hw : p.lcdOn = true → p.wline ≤ p.line) (hp : p.mode = .drawing → p.Paced) : p.Inv :=
  ⟨hl, hd, ho, hm, hw, h.columns, hp, h.sprites, h.indices, h.cursor, h.bgFifo, h.spFifo, h.fdot,
    h.latch, h.fbWf, h.fbKeys⟩

/-! The fetcher. -/

theorem Ppu.tileRow_lt (t : Byte) (p : Ppu) (r : Nat) (hr : r < 8) :
    0x8000 ≤ (p.tileAddr t + BitVec.ofNat 16 (2 * r)).toNat ∧
    (p.tileAddr t + BitVec.ofNat 16 (2 * r)).toNat < 0x97FF := by
  have ht := t.isLt
  unfold Ppu.tileAddr
  split
  · simp only [BitVec.toNat_add, BitVec.toNat_mul, BitVec.toNat_ofNat, BitVec.toNat_setWidth]
    omega
  · unfold Word.sext
    simp only [BitVec.toNat_add, BitVec.toNat_mul, BitVec.toNat_ofNat, BitVec.toNat_signExtend,
      BitVec.toNat_setWidth, BitVec.msb_eq_decide]
    by_cases h : 128 ≤ t.toNat <;> simp [h] <;> omega

theorem Ppu.fineRow_lt (p : Ppu) : p.fineRow < 8 := by
  unfold Ppu.fineRow
  split <;> exact Nat.mod_lt _ (by decide)

/-- The tile-number sub-state. -/
theorem Ppu.Parts.tileNumber {p : Ppu} (mem : Memory) (h : p.Parts) (hf : p.fst = .tileNumber) :
    ((p.readTileNumber mem).countDot 2 .tileDataLow).Parts := by
  have hb := h.fdot
  have e : (p.readTileNumber mem).fdot = p.fdot := by unfold Ppu.readTileNumber; split <;> rfl
  have q : (p.readTileNumber mem).Parts := by
    unfold Ppu.readTileNumber; split
    · exact ⟨h.columns, h.sprites, h.indices, h.cursor, h.bgFifo, h.spFifo, h.fdot,
        by intro hx; simp [hf] at hx, h.fbWf, h.fbKeys⟩
    · exact h
  have ef : (p.readTileNumber mem).fst = .tileNumber := by
    unfold Ppu.readTileNumber; split <;> exact hf
  simp only [Ppu.fdotBound, hf] at hb
  generalize p.readTileNumber mem = r at *
  unfold Ppu.countDot
  split
  · exact ⟨q.columns, q.sprites, q.indices, q.cursor, q.bgFifo, q.spFifo, by simp [Ppu.fdotBound],
      by intro hx; simp at hx, q.fbWf, q.fbKeys⟩
  · exact ⟨q.columns, q.sprites, q.indices, q.cursor, q.bgFifo, q.spFifo,
      by simp only [Ppu.fdotBound, ef]; omega, by intro hx; simp [ef] at hx, q.fbWf, q.fbKeys⟩

/-- The low bit-plane sub-state, which latches the address. -/
theorem Ppu.Parts.tileLow {p : Ppu} (mem : Memory) (h : p.Parts) (hf : p.fst = .tileDataLow) :
    ((p.readTileLow mem).countDot 2 .tileDataHigh).Parts := by
  have hb := h.fdot
  simp only [Ppu.fdotBound, hf] at hb
  have hrow := Ppu.tileRow_lt p.tileNo p p.fineRow p.fineRow_lt
  unfold Ppu.readTileLow
  by_cases h0 : p.fdot = 0
  · rw [if_pos h0]
    unfold Ppu.countDot
    rw [if_neg (by simp [h0])]
    exact ⟨h.columns, h.sprites, h.indices, h.cursor, h.bgFifo, h.spFifo,
      by simp [Ppu.fdotBound, hf, h0], fun _ => hrow, h.fbWf, h.fbKeys⟩
  · rw [if_neg h0]
    have h1 : p.fdot = 1 := by omega
    unfold Ppu.countDot
    rw [if_pos (by omega)]
    exact ⟨h.columns, h.sprites, h.indices, h.cursor, h.bgFifo, h.spFifo, by simp [Ppu.fdotBound],
      fun _ => h.latch (.inl ⟨hf, h1⟩), h.fbWf, h.fbKeys⟩

/-- The high bit-plane sub-state. -/
theorem Ppu.Parts.tileHigh {p : Ppu} (mem : Memory) (h : p.Parts) (hf : p.fst = .tileDataHigh) :
    ((p.readTileHigh mem).countDot 2 .push).Parts := by
  have hb := h.fdot
  have hl := h.latch (.inr hf)
  have e : (p.readTileHigh mem).fdot = p.fdot := by unfold Ppu.readTileHigh; split <;> rfl
  have q : (p.readTileHigh mem).Parts := by
    unfold Ppu.readTileHigh; split
    · exact ⟨h.columns, h.sprites, h.indices, h.cursor, h.bgFifo, h.spFifo, h.fdot,
        fun _ => hl, h.fbWf, h.fbKeys⟩
    · exact h
  have ef : (p.readTileHigh mem).fst = .tileDataHigh := by
    unfold Ppu.readTileHigh; split <;> exact hf
  simp only [Ppu.fdotBound, hf] at hb
  have el := q.latch (.inr ef)
  generalize p.readTileHigh mem = r at *
  unfold Ppu.countDot
  split
  · exact ⟨q.columns, q.sprites, q.indices, q.cursor, q.bgFifo, q.spFifo, by simp [Ppu.fdotBound],
      by intro hx; simp at hx, q.fbWf, q.fbKeys⟩
  · exact ⟨q.columns, q.sprites, q.indices, q.cursor, q.bgFifo, q.spFifo,
      by simp only [Ppu.fdotBound, ef]; omega, fun _ => el, q.fbWf, q.fbKeys⟩

theorem Ppu.Parts.fetcherStep {p : Ppu} (mem : Memory) (h : p.Parts) : (p.fetcherStep mem).Parts := by
  have hb := h.fdot
  unfold Ppu.fetcherStep
  split
  · rename_i hf
    simp only [Ppu.fdotBound, hf] at hb
    unfold Ppu.countDot
    split
    · exact ⟨h.columns, h.sprites, h.indices, h.cursor, h.bgFifo, h.spFifo, by simp [Ppu.fdotBound],
        by intro hx; simp at hx, h.fbWf, h.fbKeys⟩
    · exact ⟨h.columns, h.sprites, h.indices, h.cursor, h.bgFifo, h.spFifo,
        by simp only [Ppu.fdotBound, hf]; omega, by intro hx; simp [hf] at hx, h.fbWf, h.fbKeys⟩
  · exact h.tileNumber mem ‹_›
  · exact h.tileLow mem ‹_›
  · exact h.tileHigh mem ‹_›
  · unfold Ppu.pushRow
    split
    · exact ⟨h.columns, h.sprites, h.indices, h.cursor, by simp [Ppu.rowPixels], h.spFifo,
        by simp [Ppu.fdotBound], by intro hx; simp at hx, h.fbWf, h.fbKeys⟩
    · exact h

/-! Sprites, the window and the pixels. -/

/-- The parts a change of the sprite FIFO, of the counters and of the fetched list leaves alone. -/
theorem Ppu.Parts.withSpq {p : Ppu} {q : List SpritePixel} (h : p.Parts) (hq : q.length ≤ 16) :
    ({ p with spq := q } : Ppu).Parts :=
  ⟨h.columns, h.sprites, h.indices, h.cursor, h.bgFifo, hq, h.fdot, h.latch, h.fbWf, h.fbKeys⟩

theorem Ppu.padSprites_length (n : Nat) (q : List SpritePixel) :
    (Ppu.padSprites n q).length = max n q.length := by
  simp only [Ppu.padSprites, List.length_append, List.length_replicate]; omega

theorem Ppu.Parts.mergePixel {p : Ppu} (x : Nat) (v : SpritePixel) (h : p.Parts) :
    (p.mergePixel x v).Parts := by
  have hs := h.spFifo
  unfold Ppu.mergePixel
  dsimp only
  split
  · exact h
  · rename_i hc
    have hc' : x - 8 - p.xOut < 16 := by
      unfold Config.fifoCapacity at hc; omega
    split
    · split
      · exact h.withSpq (by rw [List.length_set, Ppu.padSprites_length]; omega)
      · exact h.withSpq (by rw [Ppu.padSprites_length]; omega)
    · exact h

theorem Ppu.Parts.mergeRow {p : Ppu} (x : Nat) (attr hi lo : Byte) (n k : Nat) (h : p.Parts) :
    (Ppu.mergeRow x attr hi lo n k p).Parts := by
  induction n generalizing k p with
  | zero => exact h
  | succ n ih => exact ih _ (h.mergePixel _ _)

theorem Ppu.Parts.spriteFetch {p : Ppu} (mem : Memory) (n : Nat) (h : p.Parts) :
    (p.spriteFetch mem n).Parts := h.mergeRow _ _ _ _ _ _

theorem Ppu.ly_eq_line {p : Ppu} (hon : p.lcdOn = true) (hl : p.line < 144) : p.ly = p.line := by
  unfold Ppu.ly
  rw [if_neg (by simp [hon]), if_neg (by omega)]

theorem Ppu.Parts.output {p : Ppu} (bc : Shade) (rest : List Shade) (h : p.Parts)
    (hr : rest.length ≤ 16) (hx : p.xOut < 160) (hon : p.lcdOn = true) (hl : p.line < 144) :
    (p.output bc rest).Parts := by
  have hs := h.spFifo
  have hk : p.fbKey < 160 * 144 := by
    unfold Ppu.fbKey Config.lineWidth
    rw [Ppu.ly_eq_line hon hl]; omega
  exact ⟨Nat.succ_le_of_lt hx, h.sprites, h.indices, h.cursor, hr,
    by simp only [Ppu.output, List.length_tail]; omega, h.fdot, h.latch, Cells.wf_write _ _ h.fbWf,
    Cells.keysIn_write _ (decide_eq_true hk) h.fbKeys⟩

theorem Ppu.nextSprite_mem {mem : Memory} {p : Ppu} {n : Nat} (h : p.nextSprite mem = some n) :
    n ∈ p.sprites := by
  unfold Ppu.nextSprite at h
  split at h
  · exact List.mem_of_find?_eq_some h
  · cases h

theorem Ppu.Parts.pixelStep {p : Ppu} (mem : Memory) (h : p.Parts) (hx : p.xOut < 160)
    (hon : p.lcdOn = true) (hl : p.line < 144) : (p.pixelStep mem).Parts := by
  have hb := h.bgFifo
  have hs := h.spFifo
  unfold Ppu.pixelStep
  split
  · exact h
  · rename_i bc rest hq
    have hr : rest.length ≤ 16 := by rw [hq, List.length_cons] at hb; omega
    split
    · exact ⟨h.columns, h.sprites, h.indices, h.cursor, hr, by rw [List.length_tail]; omega, h.fdot,
        h.latch, h.fbWf, h.fbKeys⟩
    · split
      · exact ⟨h.columns, h.sprites, h.indices, h.cursor, by simp [Ppu.startWindow], h.spFifo,
          by simp [Ppu.startWindow, Ppu.fdotBound], by intro hx; simp [Ppu.startWindow] at hx, h.fbWf,
          h.fbKeys⟩
      · split
        · rename_i n hn
          exact ⟨h.columns, h.sprites, h.indices, h.indices n (Ppu.nextSprite_mem hn), h.bgFifo,
            h.spFifo, h.fdot, h.latch, h.fbWf, h.fbKeys⟩
        · exact h.output bc rest hr hx hon hl

theorem Ppu.still_line {p q : Ppu} (h : q.still = p.still) : q.line = p.line := congrArg (·.2.1) h

theorem Ppu.still_dot {p q : Ppu} (h : q.still = p.still) : q.dot = p.dot := congrArg (·.2.2.1) h

theorem Ppu.still_wline {p q : Ppu} (h : q.still = p.still) : q.wline = p.wline :=
  congrArg (·.2.2.2.1) h

theorem Ppu.still_mode {p q : Ppu} (h : q.still = p.still) : q.mode = p.mode :=
  congrArg (·.2.2.2.2.2.2.2.2) h

theorem Ppu.still_lcdOn {p q : Ppu} (h : q.still = p.still) : q.lcdOn = p.lcdOn :=
  congrArg (fun x => x.1.1.getLsbD 7) h

theorem Ppu.xOut_fetcherStep (mem : Memory) (p : Ppu) : (p.fetcherStep mem).xOut = p.xOut := by
  unfold Ppu.fetcherStep
  split
  · unfold Ppu.countDot; split <;> rfl
  · unfold Ppu.readTileNumber Ppu.countDot; split <;> split <;> rfl
  · unfold Ppu.readTileLow Ppu.countDot; split <;> split <;> rfl
  · unfold Ppu.readTileHigh Ppu.countDot; split <;> split <;> rfl
  · unfold Ppu.pushRow; split <;> rfl

theorem Ppu.Parts.mode3Dot {p : Ppu} (mem : Memory) (h : p.Parts) (hx : p.xOut < 160)
    (hon : p.lcdOn = true) (hl : p.line < 144) : (p.mode3Dot mem).Parts := by
  unfold Ppu.mode3Dot
  split
  · have hst := Ppu.still_fetcherStep mem p
    exact (h.fetcherStep mem).pixelStep mem (by rw [Ppu.xOut_fetcherStep]; exact hx)
      (by rw [Ppu.still_lcdOn hst]; exact hon) (by rw [Ppu.still_line hst]; exact hl)
  · split
    · refine Ppu.Parts.spriteFetch mem _ ?_
      exact ⟨h.columns, h.sprites, h.indices, h.cursor, h.bgFifo, h.spFifo, h.fdot, h.latch, h.fbWf,
        h.fbKeys⟩
    · exact ⟨h.columns, h.sprites, h.indices, h.cursor, h.bgFifo, h.spFifo, h.fdot, h.latch, h.fbWf,
        h.fbKeys⟩

theorem Ppu.Parts.oamScanStep {p : Ppu} (mem : Memory) (h : p.Parts) : (p.oamScanStep mem).Parts := by
  unfold Ppu.oamScanStep
  dsimp only
  split
  · rename_i hc
    obtain ⟨-, hn, hlen, -⟩ := hc
    unfold Config.spritesPerLine at hlen
    refine ⟨h.columns, ?_, ?_, h.cursor, h.bgFifo, h.spFifo, h.fdot, h.latch, h.fbWf, h.fbKeys⟩
    · show (p.sprites ++ [p.dot / 2]).length ≤ 10
      rw [List.length_append, List.length_singleton]; omega
    · intro k hk
      rcases List.mem_append.mp hk with hk | hk
      · exact h.indices k hk
      · rw [List.mem_singleton.mp hk]; exact hn
  · exact h

theorem Ppu.Parts.mode3Start {p : Ppu} (h : p.Parts) : p.mode3Start.Parts :=
  ⟨Nat.zero_le _, h.sprites, h.indices, h.cursor, Nat.zero_le _, Nat.zero_le _, Nat.zero_le _,
    by intro hx; simp [Ppu.mode3Start] at hx, h.fbWf, h.fbKeys⟩

/-! The pace of mode 3. -/

/-- `Paced`, at a dot given apart. -/
def Ppu.PacedBy (d : Nat) (p : Ppu) : Prop :=
  p.xOut + 91 ≤ d ∨ (p.xOut = 0 ∧ p.bgq = [] ∧ p.progress + 79 ≤ d)

/-- The fetcher is one dot further on, or has pushed a row. -/
theorem Ppu.PacedBy.fetcherStep {p : Ppu} {d : Nat} (mem : Memory) (h : p.PacedBy d) :
    (p.fetcherStep mem).xOut + 91 ≤ d ∨ ((p.fetcherStep mem).PacedBy (d + 1) ∧
      (p.fetcherStep mem).bgq = []) := by
  rcases h with h | ⟨h0, hq, hp⟩
  · left; rw [Ppu.xOut_fetcherStep]; exact h
  · unfold Ppu.progress at hp
    unfold Ppu.fetcherStep
    split <;> rename_i hf <;> simp only [hf] at hp ⊢
    · right
      refine ⟨.inr ?_, ?_⟩ <;> unfold Ppu.countDot <;> split <;>
        simp only [h0, hq, Ppu.progress, hf, true_and] <;> omega
    · right
      refine ⟨.inr ?_, ?_⟩ <;> unfold Ppu.countDot Ppu.readTileNumber <;> split <;>
        simp_all only [Ppu.progress] <;> split <;> simp_all
      all_goals omega
    · right
      refine ⟨.inr ?_, ?_⟩ <;> unfold Ppu.countDot Ppu.readTileLow <;> split <;>
        simp_all only [Ppu.progress] <;> split <;> simp_all
      all_goals omega
    · right
      refine ⟨.inr ?_, ?_⟩ <;> unfold Ppu.countDot Ppu.readTileHigh <;> split <;>
        simp_all only [Ppu.progress] <;> split <;> simp_all
      all_goals omega
    · left
      unfold Ppu.pushRow
      split <;> simp only [h0] <;> omega

theorem Ppu.PacedBy.pixelStep {p : Ppu} {d : Nat} (mem : Memory)
    (h : p.xOut + 91 ≤ d ∨ (p.PacedBy (d + 1) ∧ p.bgq = [])) : (p.pixelStep mem).PacedBy (d + 1) := by
  rcases h with h | ⟨h, hq⟩
  · left
    unfold Ppu.pixelStep
    split
    · omega
    · split
      · dsimp only; omega
      · split
        · show p.xOut + 91 ≤ d + 1; omega
        · split
          · show p.xOut + 91 ≤ d + 1; omega
          · show p.xOut + 1 + 91 ≤ d + 1; omega
  · unfold Ppu.pixelStep; rw [hq]; exact h

/-- What a sprite's pixels leave alone: the column, the BG FIFO and the fetcher. -/
def Ppu.fetcher (p : Ppu) : Nat × List Shade × FetchState × Nat := (p.xOut, p.bgq, p.fst, p.fdot)

theorem Ppu.fetcher_mergePixel (x : Nat) (v : SpritePixel) (p : Ppu) :
    (p.mergePixel x v).fetcher = p.fetcher := by
  unfold Ppu.mergePixel
  dsimp only
  split
  · rfl
  · split
    · split <;> rfl
    · rfl

theorem Ppu.fetcher_mergeRow (x : Nat) (attr hi lo : Byte) (n k : Nat) (p : Ppu) :
    (Ppu.mergeRow x attr hi lo n k p).fetcher = p.fetcher := by
  induction n generalizing k p with
  | zero => rfl
  | succ n ih => exact (ih _ _).trans (Ppu.fetcher_mergePixel _ _ _)

theorem Ppu.fetcher_spriteFetch (mem : Memory) (n : Nat) (p : Ppu) :
    (p.spriteFetch mem n).fetcher = p.fetcher := Ppu.fetcher_mergeRow _ _ _ _ _ _ _

theorem Ppu.PacedBy.of_fetcher {p q : Ppu} {d : Nat} (h : q.fetcher = p.fetcher) (hp : p.PacedBy d) :
    q.PacedBy d := by
  simp only [Ppu.fetcher, Prod.mk.injEq] at h
  obtain ⟨h1, h2, h3, h4⟩ := h
  unfold Ppu.PacedBy Ppu.progress at *
  rw [h1, h2, h3, h4]; exact hp

theorem Ppu.PacedBy.succ {p : Ppu} {d : Nat} (h : p.PacedBy d) : p.PacedBy (d + 1) :=
  h.imp (fun h => Nat.le_succ_of_le h) (fun h => ⟨h.1, h.2.1, Nat.le_succ_of_le h.2.2⟩)

/-- A mode-3 dot outputs one column at most. -/
theorem Ppu.PacedBy.mode3Dot {p : Ppu} {d : Nat} (mem : Memory) (h : p.PacedBy d) :
    (p.mode3Dot mem).PacedBy (d + 1) := by
  unfold Ppu.mode3Dot
  split
  · exact Ppu.PacedBy.pixelStep mem (h.fetcherStep mem)
  · split
    · exact Ppu.PacedBy.of_fetcher (Ppu.fetcher_spriteFetch mem _ _) h.succ
    · exact Ppu.PacedBy.of_fetcher rfl h.succ

/-! The work of a dot. -/

theorem Ppu.vblankStarts_iff (p : Ppu) : p.vblankStarts = true ↔ p.line = 144 ∧ p.dot = 0 :=
  decide_eq_true_iff

/-- What holds when a dot's mode has been entered and its work is still to be done. -/
structure Ppu.Entered (p : Ppu) : Prop where
  parts : p.Parts
  on : p.lcdOn = true
  line : p.line ≤ 153
  dot : p.dot ≤ 455
  mode : legalMode p.line p.dot p.mode
  wline : p.wline ≤ p.line
  paced : p.mode = .drawing → p.PacedBy (p.dot - 1)

theorem Ppu.Entered.modeWork {p : Ppu} (mem : Memory) (h : p.Entered) : (p.modeWork mem).Inv := by
  have hm := h.mode
  have off : ∀ {q : Prop}, p.lcdOn = false → q := fun e => by rw [h.on] at e; cases e
  unfold Ppu.modeWork
  split <;> rename_i hmode <;> rw [hmode] at hm
  · have e : (p.oamScanStep mem).mode = p.mode ∧ (p.oamScanStep mem).line = p.line ∧
        (p.oamScanStep mem).dot = p.dot ∧ (p.oamScanStep mem).wline = p.wline ∧
        (p.oamScanStep mem).lcdOn = p.lcdOn := by
      unfold Ppu.oamScanStep; dsimp only; split <;> exact ⟨rfl, rfl, rfl, rfl, rfl⟩
    obtain ⟨e1, e2, e3, e4, e5⟩ := e
    refine .of_parts (h.parts.oamScanStep mem) ?_ ?_ ?_ ?_ ?_ ?_
    · rw [e2]; exact h.line
    · rw [e3]; exact h.dot
    · rw [e5]; exact off
    · intro _; rw [e1, e2, e3, hmode]; exact hm
    · intro _; rw [e2, e4]; exact h.wline
    · intro hx; rw [e1, hmode] at hx; cases hx
  · have hp := h.paced hmode
    unfold legalMode at hm
    split
    · rename_i hx
      unfold Config.lineWidth at hx
      have hd : 252 ≤ p.dot := by
        rcases hp with hp | ⟨h0, -, -⟩ <;> omega
      refine .of_parts ?_ h.line h.dot off (fun _ => ⟨hm.1, hd⟩) (fun _ => h.wline) (by simp)
      have q := h.parts
      exact ⟨q.columns, q.sprites, q.indices, q.cursor, q.bgFifo, q.spFifo, q.fdot, q.latch, q.fbWf,
        q.fbKeys⟩
    · rename_i hx
      have hx' : p.xOut < 160 := by
        have := h.parts.columns; unfold Config.lineWidth at hx; omega
      have st := Ppu.still_mode3Dot mem p
      have e1 := Ppu.still_line st
      have e2 := Ppu.still_dot st
      have e3 := Ppu.still_mode st
      have e4 := Ppu.still_wline st
      have e5 := Ppu.still_lcdOn st
      have pc := hp.mode3Dot mem
      rw [Nat.sub_add_cancel (by omega), ← e2] at pc
      refine .of_parts (h.parts.mode3Dot mem hx' h.on hm.1) ?_ ?_ ?_ ?_ ?_ (fun _ => pc)
      · rw [e1]; exact h.line
      · rw [e2]; exact h.dot
      · rw [e5]; exact off
      · intro _; rw [e1, e2, e3, hmode]; exact hm
      · intro _; rw [e1, e4]; exact h.wline
  · exact .of_parts h.parts h.line h.dot off (fun _ => by rw [hmode]; exact hm) (fun _ => h.wline)
      (by rw [hmode]; intro e; cases e)
  · exact .of_parts h.parts h.line h.dot off (fun _ => by rw [hmode]; exact hm) (fun _ => h.wline)
      (by rw [hmode]; intro e; cases e)

/-- What holds when the PPU has moved to a dot and its mode is still the last dot's. -/
structure Ppu.Arrived (p : Ppu) : Prop where
  parts : p.Parts
  on : p.lcdOn = true
  line : p.line ≤ 153
  dot : p.dot ≤ 455
  wline : p.wline ≤ p.line ∨ (p.line = 0 ∧ p.dot = 0)
  before : p.dot = 0 ∧ (144 < p.line → p.mode = .vblank) ∨
    0 < p.dot ∧ legalMode p.line (p.dot - 1) p.mode ∧ (p.mode = .drawing → p.PacedBy (p.dot - 1))

theorem Ppu.Arrived.enterDot {p : Ppu} (h : p.Arrived) : p.enterDot.Entered := by
  have q := h.parts
  have hl := h.line
  have hd := h.dot
  have hw := h.wline
  unfold Ppu.enterDot
  by_cases hv : p.line < 144
  · by_cases h0 : p.dot = 0
    · have e1 : p.enterScan = { p with mode := .oamScan, sprites := [] } := if_pos ⟨hv, h0⟩
      have e2 : ({ p with mode := .oamScan, sprites := [] } : Ppu).enterDrawing =
          { p with mode := .oamScan, sprites := [] } := if_neg (by rintro ⟨-, e⟩; dsimp only at e; omega)
      have e3 : ({ p with mode := .oamScan, sprites := [] } : Ppu).enterVblank =
          { p with mode := .oamScan, sprites := [] } := if_neg (by
            rw [Ppu.vblankStarts_iff]; dsimp only; omega)
      rw [e1, e2, e3]
      unfold Ppu.restartWindowLines
      dsimp only
      split
      · exact ⟨⟨q.columns, Nat.zero_le _, by simp, q.cursor, q.bgFifo, q.spFifo, q.fdot, q.latch,
          q.fbWf, q.fbKeys⟩, h.on, hl, hd, ⟨hv, by dsimp only; omega⟩, Nat.zero_le _, by simp⟩
      · exact ⟨⟨q.columns, Nat.zero_le _, by simp, q.cursor, q.bgFifo, q.spFifo, q.fdot, q.latch,
          q.fbWf, q.fbKeys⟩, h.on, hl, hd, ⟨hv, by dsimp only; omega⟩, by dsimp only; omega, by simp⟩
    · have e1 : p.enterScan = p := if_neg (by omega)
      rw [e1]
      by_cases h80 : p.dot = 80
      · have e2 : p.enterDrawing = { p.mode3Start with mode := .drawing } := if_pos ⟨hv, h80⟩
        have e3 : ({ p.mode3Start with mode := .drawing } : Ppu).enterVblank =
          { p.mode3Start with mode := .drawing } := if_neg (by
            rw [Ppu.vblankStarts_iff]; simp only [Ppu.mode3Start]; omega)
        have e4 : ({ p.mode3Start with mode := .drawing } : Ppu).restartWindowLines =
          { p.mode3Start with mode := .drawing } := if_neg (by
            simp only [Ppu.mode3Start]; omega)
        rw [e2, e3, e4]
        have m := q.mode3Start
        exact ⟨⟨m.columns, m.sprites, m.indices, m.cursor, m.bgFifo, m.spFifo, m.fdot, m.latch,
          m.fbWf, m.fbKeys⟩, h.on, hl, hd, ⟨hv, by show 80 ≤ p.dot; omega⟩,
          by show p.wline ≤ p.line; omega,
          fun _ => .inr ⟨rfl, rfl, by show 0 + 79 ≤ p.dot - 1; omega⟩⟩
      · have e2 : p.enterDrawing = p := if_neg (by unfold Config.visibleLines; omega)
        have e3 : p.enterVblank = p := if_neg (by
            rw [Ppu.vblankStarts_iff]; omega)
        have e4 : p.restartWindowLines = p := if_neg (by omega)
        rw [e2, e3, e4]
        rcases h.before with hb | ⟨-, hm, hp⟩
        · omega
        refine ⟨q, h.on, hl, hd, ?_, by omega, hp⟩
        unfold legalMode at hm ⊢
        split <;> rename_i hmode <;> simp only [hmode] at hm <;> omega
  · have e1 : p.enterScan = p := if_neg (by unfold Config.visibleLines; omega)
    have e2 : p.enterDrawing = p := if_neg (by unfold Config.visibleLines; omega)
    rw [e1, e2]
    by_cases hs : p.line = 144 ∧ p.dot = 0
    · have e3 : p.enterVblank = { p with mode := .vblank, frames := p.frames + 1, skipframe := false } :=
        if_pos ((Ppu.vblankStarts_iff p).mpr hs)
      rw [e3]
      unfold Ppu.restartWindowLines
      rw [if_neg (by dsimp only; omega)]
      exact ⟨⟨q.columns, q.sprites, q.indices, q.cursor, q.bgFifo, q.spFifo, q.fdot, q.latch, q.fbWf,
        q.fbKeys⟩, h.on, hl, hd, by show 144 ≤ p.line; omega, by show p.wline ≤ p.line; omega, by simp⟩
    · have e3 : p.enterVblank = p := if_neg (fun e => hs ((Ppu.vblankStarts_iff p).mp e))
      rw [e3]
      have e4 : p.restartWindowLines = p := if_neg (by omega)
      rw [e4]
      have hmode : p.mode = .vblank := by
        rcases h.before with ⟨hb, hm⟩ | ⟨-, hm, -⟩
        · exact hm (by omega)
        · unfold legalMode at hm; revert hm; cases p.mode <;> simp <;> omega
      exact ⟨q, h.on, hl, hd, by rw [hmode]; show 144 ≤ p.line; omega, by omega,
        by rw [hmode]; intro e; cases e⟩

theorem Ppu.Arrived.dotWork {p : Ppu} (mem : Memory) (h : p.Arrived) : (p.dotWork mem).1.Inv :=
  h.enterDot.modeWork mem

theorem Ppu.Inv.advance {p : Ppu} (h : p.Inv) (hon : p.lcdOn = true) : p.advance.Arrived := by
  have hl := h.line
  have hd := h.dot
  have hm := h.mode hon
  have hw := h.wline hon
  have q := h.parts
  unfold Ppu.advance Config.dotsPerLine Config.linesPerFrame
  split
  · refine ⟨⟨q.columns, q.sprites, q.indices, q.cursor, q.bgFifo, q.spFifo, q.fdot, q.latch, q.fbWf,
      q.fbKeys⟩, hon, ?_, Nat.zero_le _, ?_, .inl ⟨rfl, ?_⟩⟩
    · dsimp only; split <;> omega
    · dsimp only; split <;> split <;> simp <;> omega
    · intro hx
      have hx' : 144 < p.line + 1 := by
        revert hx; dsimp only; split <;> omega
      unfold legalMode at hm
      show p.mode = .vblank
      revert hm
      have h2 : 144 < p.line + 1 → p.line ≠ 153 → 144 ≤ p.line := by omega
      revert hx; dsimp only
      split
      · omega
      · intro hx; cases p.mode <;> simp <;> omega
  · refine ⟨⟨q.columns, q.sprites, q.indices, q.cursor, q.bgFifo, q.spFifo, q.fdot, q.latch, q.fbWf,
      q.fbKeys⟩, hon, hl, by dsimp only; omega, .inl hw, .inr ⟨Nat.succ_pos _, hm, h.paced⟩⟩

/-- The STAT line is no part of the invariant. -/
theorem Ppu.Inv.withLine {p : Ppu} (b : Bool) (h : p.Inv) : ({ p with statline := b } : Ppu).Inv :=
  ⟨h.line, h.dot, h.off, h.mode, h.wline, h.columns, h.paced, h.sprites, h.indices, h.cursor, h.bgFifo,
    h.spFifo, h.fdot, h.latch, h.fbWf, h.fbKeys⟩

/-- A dot keeps the invariant. -/
theorem Ppu.Inv.step {p : Ppu} (mem : Memory) (h : p.Inv) : (p.step mem).1.Inv := by
  cases hon : p.lcdOn with
  | false => rw [Ppu.step_off mem hon]; exact h
  | true =>
    rw [Ppu.step_on mem hon]
    exact ((h.advance hon).dotWork mem).withLine _

/-! Writes of the PPU's registers. -/

/-- Two PPUs that differ in registers, but for LCDC bit 7, alone. -/
theorem Ppu.Inv.of_regs {p q : Ppu} (h : p.Inv)
    (e : { p with
      lcdc := q.lcdc, statSel := q.statSel, scy := q.scy, scx := q.scx, lyc := q.lyc, bgp := q.bgp
      obp0 := q.obp0, obp1 := q.obp1, wy := q.wy, wx := q.wx, statline := q.statline } = q)
    (hon : q.lcdOn = p.lcdOn) : q.Inv := by
  have ho := h.off
  have hm := h.mode
  have hw := h.wline
  rw [← hon] at ho hm hw
  rw [← e] at ho hm hw ⊢
  exact ⟨h.line, h.dot, ho, hm, hw, h.columns, h.paced, h.sprites, h.indices, h.cursor, h.bgFifo,
    h.spFifo, h.fdot, h.latch, h.fbWf, h.fbKeys⟩

theorem Ppu.Inv.turnOff {p : Ppu} (h : p.Parts) (hoff : p.lcdOn = false) : p.turnOff.Inv := by
  have m := h.mode3Start
  refine .of_parts ?_ (Nat.zero_le _) (Nat.zero_le _) (fun _ => ⟨rfl, rfl, rfl⟩) ?_ ?_ ?_
  · exact ⟨m.columns, Nat.zero_le _, (fun n hn => by cases hn), m.cursor, m.bgFifo, m.spFifo, m.fdot,
      m.latch, m.fbWf, m.fbKeys⟩
  · intro e; rw [show p.turnOff.lcdOn = p.lcdOn from rfl, hoff] at e; cases e
  · intro e; rw [show p.turnOff.lcdOn = p.lcdOn from rfl, hoff] at e; cases e
  · intro e; cases e

theorem Ppu.Inv.turnOn {p : Ppu} (mem : Memory) (h : p.Parts) (hon : p.lcdOn = true) :
    (p.turnOn mem).Inv := by
  have a : Ppu.Arrived { p with line := 0, dot := 0, wline := 0 } :=
    ⟨⟨h.columns, h.sprites, h.indices, h.cursor, h.bgFifo, h.spFifo, h.fdot, h.latch, h.fbWf,
      h.fbKeys⟩, hon, Nat.zero_le _, Nat.zero_le _, .inr ⟨rfl, rfl⟩,
      .inl ⟨rfl, fun e => absurd e (Nat.not_lt_zero _)⟩⟩
  have i := a.dotWork mem
  unfold Ppu.turnOn
  generalize (Ppu.dotWork mem { p with line := 0, dot := 0, wline := 0 }).1 = q at i
  exact ⟨i.line, i.dot, i.off, i.mode, i.wline, i.columns, i.paced, i.sprites, i.indices, i.cursor,
    i.bgFifo, i.spFifo, i.fdot, i.latch, i.fbWf, i.fbKeys⟩

/-- The parts hold whatever LCDC is. -/
theorem Ppu.Parts.withLcdc {p : Ppu} (v : Byte) (h : p.Parts) : ({ p with lcdc := v } : Ppu).Parts :=
  ⟨h.columns, h.sprites, h.indices, h.cursor, h.bgFifo, h.spFifo, h.fdot, h.latch, h.fbWf, h.fbKeys⟩

/-- A write of LCDC keeps the invariant. -/
theorem Ppu.Inv.writeLcdc {p : Ppu} (mem : Memory) (v : Byte) (h : p.Inv) :
    (p.writeLcdc mem v).1.Inv := by
  unfold Ppu.writeLcdc
  refine Ppu.Inv.withLine _ ?_
  split
  · rename_i hc
    simp only [Bool.and_eq_true, Bool.not_eq_true'] at hc
    exact Ppu.Inv.turnOff (h.parts.withLcdc v) hc.2
  · split
    · rename_i hc
      simp only [Bool.and_eq_true, Bool.not_eq_true'] at hc
      exact Ppu.Inv.turnOn mem (h.parts.withLcdc v) hc.2
    · rename_i h1 h2
      refine h.of_regs rfl ?_
      show v.getLsbD 7 = p.lcdOn
      revert h1 h2
      cases p.lcdOn <;> cases v.getLsbD 7 <;> simp

/-- The PPU after a reset meets its invariant (rules R120 to R124, R902). -/
theorem Ppu.Inv.reset {q : Params} (fast : Bool) (h : Params.Valid q) : (Ppu.reset q fast).Inv := by
  have hp : (Ppu.reset q fast).Parts :=
    ⟨Nat.zero_le _, Nat.zero_le _, (fun n hn => by cases hn), (by decide : (0 : Nat) < 40),
      Nat.zero_le _, Nat.zero_le _, Nat.zero_le _, (by rintro (⟨e, -⟩ | e) <;> cases e), rfl, rfl⟩
  cases fast with
  | false =>
    exact .of_parts hp (Nat.zero_le _) (Nat.zero_le _) (fun _ => ⟨rfl, rfl, rfl⟩)
      (fun e => by simp [Ppu.lcdOn, Ppu.reset] at e) (fun _ => Nat.zero_le _)
      (fun e => by cases e)
  | true =>
    refine .of_parts hp h.line h.dot (fun e => by simp [Ppu.lcdOn, Ppu.reset] at e)
      (fun _ => h.mode)
      (fun _ => Nat.zero_le _) (fun e => .inr ⟨rfl, rfl, ?_⟩)
    have hm := h.mode
    rw [show q.fastbootMode = .drawing from e] at hm
    show 0 + 79 ≤ q.fastbootDot
    have := hm.2
    omega

end Sys2Proof.Machine
end

