-- ==== Sys2Proof/Laws/Tick.lean ====
section
/-! SUPPORT. What one T-cycle, one M-cycle and some M-cycles do to each unit: the units side by side, each
from its own state, and the memory the PPU sees. -/

namespace Sys2Proof.Machine

/-! A T-cycle. -/

/-- The DMA unit's slot changes memory, the unit and what a cartridge device was told, and nothing else. -/
theorem State.dmaStep_state (t : Nat) (s : State) :
    s.dmaStep t = { s with
      mem := (s.dmaStep t).mem, dma := (s.dmaStep t).dma, cart := (s.dmaStep t).cart } := by
  unfold State.dmaStep
  split
  · dsimp only; rw [State.dmaRead_state]
  · rfl

/-- The requests of a T-cycle, in the order of its slots (rule R905). -/
def State.requests (ppuMem : Memory) (s : State) : Interrupts :=
  ((((s.irq.request srcTimer s.timer.step.2).request srcVblank (s.ppu.step ppuMem).2.1).request
    srcStat (s.ppu.step ppuMem).2.2).request srcSerial s.serial.step.2).request srcJoypad
    s.joypad.evaluate.2

/-- A T-cycle, the units side by side (rule R905): the DMA unit from the state before it, the PPU over
the memory the DMA leaves. -/
theorem State.tCycle_eq (t : Nat) (s : State) :
    s.tCycle t = { s with
      timer := s.timer.step.1
      mem := (s.dmaStep t).mem, dma := (s.dmaStep t).dma, cart := (s.dmaStep t).cart
      ppu := (s.ppu.step (s.dmaStep t).mem).1
      serial := s.serial.step.1
      joypad := s.joypad.evaluate.1
      irq := s.requests (s.dmaStep t).mem
      clock := s.clock + 1 } := by
  have h : (s.timerStep).dmaStep t = { s.dmaStep t with
      timer := s.timer.step.1, irq := s.irq.request srcTimer s.timer.step.2 } := by
    unfold State.dmaStep
    have hr : ∀ n, (s.timerStep).dmaRead n = ((s.dmaRead n).1, { (s.dmaRead n).2 with
        timer := s.timer.step.1, irq := s.irq.request srcTimer s.timer.step.2 }) := by
      intro n
      unfold State.dmaRead State.romRead State.cartRead State.timerStep
      dsimp only
      split
      · rfl
      · split
        · split
          · rfl
          · split <;> rfl
        · rfl
    have hd : (s.timerStep).dma = s.dma := rfl
    rw [hd, hr]
    split <;> rfl
  unfold State.tCycle
  rw [h, State.dmaStep_state]
  rfl

@[simp] theorem State.tCycle_timer (t : Nat) (s : State) : (s.tCycle t).timer = s.timer.step.1 := by
  rw [State.tCycle_eq]
theorem State.tCycle_ppu (t : Nat) (s : State) :
    (s.tCycle t).ppu = (s.ppu.step (s.tCycle t).mem).1 := by
  rw [State.tCycle_eq]
@[simp] theorem State.tCycle_serial (t : Nat) (s : State) : (s.tCycle t).serial = s.serial.step.1 := by
  rw [State.tCycle_eq]
@[simp] theorem State.tCycle_joypad (t : Nat) (s : State) :
    (s.tCycle t).joypad = s.joypad.evaluate.1 := by
  rw [State.tCycle_eq]
theorem State.tCycle_irq (t : Nat) (s : State) :
    (s.tCycle t).irq = s.requests (s.tCycle t).mem := by
  rw [State.tCycle_eq]
@[simp] theorem State.tCycle_dma (t : Nat) (s : State) : (s.tCycle t).dma = (s.dmaStep t).dma := by
  rw [State.tCycle_eq]
@[simp] theorem State.tCycle_dmaMem (t : Nat) (s : State) : (s.tCycle t).mem = (s.dmaStep t).mem := by
  rw [State.tCycle_eq]
@[simp] theorem State.tCycle_cart (t : Nat) (s : State) : (s.tCycle t).cart = (s.dmaStep t).cart := by
  rw [State.tCycle_eq]
@[simp] theorem State.tCycle_bootMapped (t : Nat) (s : State) :
    (s.tCycle t).bootMapped = s.bootMapped := by
  rw [State.tCycle_eq]
@[simp] theorem State.tCycle_params (t : Nat) (s : State) : (s.tCycle t).params = s.params := by
  rw [State.tCycle_eq]

/-- A slot's request: bit `i` of IF is set by source `i` and no other (rule R701). -/
theorem Interrupts.request_bit {i : Nat} (hi : i < 5) (e : Bool) (q : Interrupts) (j : Nat)
    (hj : j < 5) : (q.request i e).ifr.getLsbD j = (q.ifr.getLsbD j || (e && decide (j = i))) := by
  unfold Interrupts.request
  split
  · subst_vars
    interval_cases i <;> interval_cases j <;> simp
  · simp [*]

@[simp] theorem Interrupts.request_ie' (i : Nat) (e : Bool) (q : Interrupts) :
    (q.request i e).ie = q.ie := Interrupts.request_ie i e q

/-- The five requests, bit by bit (rule R701). -/
theorem State.requests_bit (m : Memory) (s : State) {j : Nat} (hj : j < 5) :
    (s.requests m).ifr.getLsbD j = (s.irq.ifr.getLsbD j ||
      ((s.ppu.step m).2.1 && decide (j = 0)) || ((s.ppu.step m).2.2 && decide (j = 1)) ||
      (s.timer.step.2 && decide (j = 2)) || (s.serial.step.2 && decide (j = 3)) ||
      (s.joypad.evaluate.2 && decide (j = 4))) := by
  unfold State.requests
  rw [Interrupts.request_bit (by decide) _ _ _ hj, Interrupts.request_bit (by decide) _ _ _ hj,
    Interrupts.request_bit (by decide) _ _ _ hj, Interrupts.request_bit (by decide) _ _ _ hj,
    Interrupts.request_bit (by decide) _ _ _ hj]
  unfold srcTimer srcVblank srcStat srcSerial srcJoypad
  interval_cases j <;> simp

@[simp] theorem State.requests_ie (m : Memory) (s : State) : (s.requests m).ie = s.irq.ie := by
  simp [State.requests]

/-! An M-cycle. -/

/-- A property of a unit that every T-cycle keeps, an M-cycle keeps, when the end of the M-cycle does. -/
theorem State.mCycle_induction {P : State → Prop} {s : State} (h : P s)
    (ht : ∀ t u, P u → P (u.tCycle t)) (he : ∀ u, P u → P u.endMCycle) : P s.mCycle :=
  he _ (ht _ _ (ht _ _ (ht _ _ (ht _ _ h))))

/-- Some M-cycles keep what each keeps. -/
theorem State.mCycles_induction {P : State → Prop} (n : Nat) {s : State} (h : P s)
    (hm : ∀ u, P u → P u.mCycle) : P (State.mCycles n s) := by
  induction n generalizing s with
  | zero => exact h
  | succ n ih => exact ih (hm s h)

theorem State.mCycles_succ (n : Nat) (s : State) :
    State.mCycles (n + 1) s = (State.mCycles n s).mCycle := by
  induction n generalizing s with
  | zero => rfl
  | succ n ih => exact ih s.mCycle

/-- Some dots of the timer. -/
def Timer.after : Nat → Timer → Timer
  | 0, t => t
  | n + 1, t => Timer.after n t.step.1

theorem Timer.after_succ (n : Nat) (t : Timer) : Timer.after (n + 1) t = (Timer.after n t).step.1 := by
  induction n generalizing t with
  | zero => rfl
  | succ n ih => exact ih t.step.1

theorem Timer.after_add (m n : Nat) (t : Timer) :
    Timer.after (m + n) t = Timer.after n (Timer.after m t) := by
  induction m generalizing t with
  | zero => simp [Timer.after]
  | succ m ih => rw [Nat.add_right_comm]; exact ih t.step.1

@[simp] theorem State.endMCycle_timer (s : State) : s.endMCycle.timer = s.timer := rfl
@[simp] theorem State.endMCycle_ppu (s : State) : s.endMCycle.ppu = s.ppu := rfl
@[simp] theorem State.endMCycle_serial (s : State) : s.endMCycle.serial = s.serial := rfl
@[simp] theorem State.endMCycle_irq (s : State) : s.endMCycle.irq = s.irq := rfl
@[simp] theorem State.endMCycle_mem (s : State) : s.endMCycle.mem = s.mem := rfl
@[simp] theorem State.endMCycle_joypad (s : State) : s.endMCycle.joypad = s.joypad := rfl

theorem State.mCycle_timer (s : State) : s.mCycle.timer = Timer.after 4 s.timer := by
  simp [State.mCycle, Timer.after]

theorem State.mCycles_timer (n : Nat) (s : State) :
    (State.mCycles n s).timer = Timer.after (4 * n) s.timer := by
  induction n generalizing s with
  | zero => rfl
  | succ n ih =>
    rw [State.mCycles, ih, State.mCycle_timer, ← Timer.after_add]
    congr 1; omega

end Sys2Proof.Machine
end

