-- ==== Sys2Proof/Laws/Invariant.lean ====
section
/-! SUPPORT. The invariant of the units outside the CPU, over an M-cycle and over the CPU's accesses. -/

namespace Sys2Proof.Machine

/-- The invariant outside the CPU, within an M-cycle: a DMA start may be waiting for its end, and the
last byte of a running DMA may have been copied. -/
structure State.Units (s : State) : Prop where
  mem : Memory.Inv s.mem
  ppu : s.ppu.Inv
  idx : s.dma.idx ≤ 160
  page : s.dma.src.lo = 0x00#8
  serial : s.serial.Inv
  reload : s.timer.reload ≤ 4
  params : Params.Valid s.params

/-- The same between M-cycles. -/
structure State.Settled (s : State) : Prop where
  units : s.Units
  dma : s.dma.Inv

theorem State.Inv.settled {s : State} (h : s.Inv) : s.Settled :=
  ⟨⟨h.mem, h.ppu, h.dma.idx, h.dma.page, h.serial, h.reload, h.params⟩, h.dma⟩

theorem State.Inv.of_settled {s : State} (h : s.Settled) (hc : s.cpu.Inv) : s.Inv :=
  ⟨hc, h.units.mem, h.units.ppu, h.dma, h.units.serial, h.units.reload, h.units.params⟩

/-! A T-cycle. -/

theorem Timer.increment_reload {t : Timer} (h : t.reload ≤ 4) : t.increment.reload ≤ 4 := by
  unfold Timer.increment Config.reloadDelay
  split
  · exact Nat.le_refl _
  · exact h

theorem Timer.edgeCheck_reload {t : Timer} (h : t.reload ≤ 4) : t.edgeCheck.reload ≤ 4 := by
  unfold Timer.edgeCheck
  split
  · exact Timer.increment_reload h
  · exact h

theorem Timer.step_reload {t : Timer} (h : t.reload ≤ 4) : t.step.1.reload ≤ 4 := by
  refine Timer.edgeCheck_reload ?_
  unfold Timer.reloadStep
  split
  · exact h
  · split
    · exact Nat.zero_le _
    · dsimp only; omega

theorem Serial.Inv.step {p : Serial} (h : p.Inv) : p.step.1.Inv := by
  have hc := h.countdown
  unfold Serial.step
  split
  · exact h
  · split
    · exact ⟨Nat.zero_le _, fun e => absurd rfl e⟩
    · rename_i h0 h1
      exact ⟨by dsimp only; omega, fun _ => h.running h0⟩

theorem Serial.Inv.writeSc {p : Serial} (v : Byte) : (p.writeSc v).Inv := by
  unfold Serial.writeSc Config.serialTransfer
  split
  · exact ⟨Nat.le_refl _, fun _ => ⟨rfl, rfl⟩⟩
  · exact ⟨Nat.zero_le _, fun e => absurd rfl e⟩

theorem Memory.Inv.write {m : Memory} {k : Nat} (v : Byte) (h : Memory.Inv m)
    (hk : inStorage k = true) : Memory.Inv (Cells.write m k v) :=
  ⟨Cells.wf_write k v h.wf, Cells.keysIn_write v hk h.keys⟩

theorem inStorage_oam {n : Nat} (h : n < 160) : inStorage (0xFE00 + n) = true := by
  simp only [inStorage, inCart, inCartRom, inCartRam, inVram, inWram, inOam, inHram,
    Bool.or_eq_true, Bool.and_eq_true, decide_eq_true_eq]
  omega

theorem State.dmaStep_inv (t : Nat) {s : State} (hm : Memory.Inv s.mem) (hi : s.dma.idx ≤ 160) :
    Memory.Inv (s.dmaStep t).mem ∧ (s.dmaStep t).dma.idx ≤ 160 ∧
      (s.dmaStep t).dma.src = s.dma.src := by
  unfold State.dmaStep Config.dmaLength
  split
  · rename_i h
    exact ⟨hm.write _ (inStorage_oam h.2.2), h.2.2, rfl⟩
  · exact ⟨hm, hi, rfl⟩

theorem State.Units.tCycle (t : Nat) {s : State} (h : s.Units) : (s.tCycle t).Units := by
  obtain ⟨hm, hi, hs⟩ := State.dmaStep_inv t h.mem h.idx
  rw [State.tCycle_eq]
  exact ⟨hm, h.ppu.step _, hi, (congrArg Word.lo hs).trans h.page, h.serial.step,
    Timer.step_reload h.reload, h.params⟩

/-! The M-cycle. -/

theorem Dma.latch_inv {d : Dma} (hi : d.idx ≤ 160) (hp : d.src.lo = 0x00#8) : d.latch.Inv := by
  unfold Dma.latch Config.dmaLength
  dsimp only
  by_cases h : 160 ≤ d.idx
  · rw [if_pos h]
    dsimp only
    split
    · exact ⟨Nat.zero_le _, fun _ => (by decide : (0 : Nat) < 160), rfl, Word.lo_ofBytes _ _⟩
    · rename_i hs
      exact ⟨hi, fun e => by (cases e), by simpa using hs, hp⟩
  · rw [if_neg h]
    split
    · exact ⟨Nat.zero_le _, fun _ => (by decide : (0 : Nat) < 160), rfl, Word.lo_ofBytes _ _⟩
    · rename_i hs
      exact ⟨hi, fun _ => by omega, by simpa using hs, hp⟩

theorem State.Units.mCycle {s : State} (h : s.Units) : s.mCycle.Settled := by
  have u := (((h.tCycle 0).tCycle 1).tCycle 2).tCycle 3
  have l := Dma.latch_inv u.idx u.page
  exact ⟨⟨u.mem, u.ppu, l.idx, l.page, u.serial, u.reload, u.params⟩, l⟩

/-! The CPU's accesses. -/

theorem State.Units.onCpu {s : State} (f : Cpu → Cpu) (h : s.Units) : (s.onCpu f).Units :=
  ⟨h.mem, h.ppu, h.idx, h.page, h.serial, h.reload, h.params⟩

theorem State.Settled.onCpu {s : State} (f : Cpu → Cpu) (h : s.Settled) : (s.onCpu f).Settled :=
  ⟨h.units.onCpu f, h.dma⟩

theorem State.Units.busRead {s : State} (a : Word) (h : s.Units) : (s.busRead a).2.Units := by
  rw [State.busRead_state]
  exact ⟨h.mem, h.ppu, h.idx, h.page, h.serial, h.reload, h.params⟩

theorem State.Settled.memRead {s : State} (a : Word) (h : s.Settled) : (s.memRead a).2.Settled :=
  (h.units.busRead a).mCycle

theorem State.Settled.internal {s : State} (h : s.Settled) : s.internal.Settled := h.units.mCycle

/-- Where the targets of the bus decode that store a byte lie (rule R201). -/
theorem inStorage_of_target {n : Nat} :
    (decodeAddr n = .vram ∨ decodeAddr n = .wram ∨ decodeAddr n = .oam ∨ decodeAddr n = .hram →
      inStorage n = true) ∧
    (decodeAddr n = .echo → inStorage (n - 0x2000) = true) ∧
    (inCartRam n = true → inStorage n = true) := by
  unfold decodeAddr
  simp only [inStorage, inCart, inCartRom, inCartRam, inVram, inWram, inOam, inHram,
    Bool.or_eq_true, Bool.and_eq_true, decide_eq_true_eq]
  split_ifs <;> simp <;> omega

/-- A key the bus decode stores at is storage (rule R201). -/
theorem State.storeKey_inStorage {a : Word} {s : State} {k : Nat} (h : s.storeKey a = some k) :
    inStorage k = true := by
  obtain ⟨h1, h2, h3⟩ := inStorage_of_target (n := a.toNat)
  unfold State.storeKey at h
  dsimp only at h
  split at h
  · cases h
  · split at h <;> rename_i hd
    · split at h
      · split at h
        · rename_i hc
          obtain rfl := Option.some.inj h
          exact h3 (Bool.and_eq_true_iff.mp hc).1
        · cases h
      · cases h
    · split at h
      · cases h
      · obtain rfl := Option.some.inj h; exact h1 (.inl hd)
    · obtain rfl := Option.some.inj h; exact h1 (.inr (.inl hd))
    · obtain rfl := Option.some.inj h; exact h2 hd
    · split at h
      · cases h
      · obtain rfl := Option.some.inj h; exact h1 (.inr (.inr (.inl hd)))
    · cases h
    · cases h
    · obtain rfl := Option.some.inj h; exact h1 (.inr (.inr (.inr hd)))
    · cases h

theorem State.Units.withPpu {s : State} {p : Ppu} {q : Interrupts} (h : s.Units) (hp : p.Inv) :
    ({ s with ppu := p, irq := q } : State).Units :=
  ⟨h.mem, hp, h.idx, h.page, h.serial, h.reload, h.params⟩

theorem State.Units.withTimer {s : State} {t : Timer} (h : s.Units) (ht : t.reload ≤ 4) :
    ({ s with timer := t } : State).Units :=
  ⟨h.mem, h.ppu, h.idx, h.page, h.serial, ht, h.params⟩

theorem State.Units.ioWrite {s : State} (n : Nat) (v : Byte) (h : s.Units) :
    (s.ioWrite n v).Units := by
  have hp := h.ppu
  unfold State.ioWrite
  split
  · exact ⟨h.mem, h.ppu, h.idx, h.page, h.serial, h.reload, h.params⟩
  · exact ⟨h.mem, h.ppu, h.idx, h.page, ⟨h.serial.countdown, h.serial.running⟩, h.reload, h.params⟩
  · exact ⟨h.mem, h.ppu, h.idx, h.page, Serial.Inv.writeSc v, h.reload, h.params⟩
  · exact h.withTimer (Timer.edgeCheck_reload h.reload)
  · exact h.withTimer (Nat.zero_le _)
  · exact h.withTimer h.reload
  · exact h.withTimer (Timer.edgeCheck_reload h.reload)
  · exact ⟨h.mem, h.ppu, h.idx, h.page, h.serial, h.reload, h.params⟩
  · exact h
  · exact h.withPpu (hp.writeLcdc _ v)
  · exact h.withPpu (hp.of_regs rfl rfl)
  · exact h.withPpu (q := s.irq) (hp.of_regs rfl rfl)
  · exact h.withPpu (q := s.irq) (hp.of_regs rfl rfl)
  · exact h
  · exact h.withPpu (hp.of_regs rfl rfl)
  · exact ⟨h.mem, h.ppu, h.idx, h.page, h.serial, h.reload, h.params⟩
  · exact h.withPpu (q := s.irq) (hp.of_regs rfl rfl)
  · exact h.withPpu (q := s.irq) (hp.of_regs rfl rfl)
  · exact h.withPpu (q := s.irq) (hp.of_regs rfl rfl)
  · exact h.withPpu (q := s.irq) (hp.of_regs rfl rfl)
  · exact h.withPpu (q := s.irq) (hp.of_regs rfl rfl)
  · exact ⟨h.mem, h.ppu, h.idx, h.page, h.serial, h.reload, h.params⟩
  · exact h

theorem State.Units.busWrite {s : State} (a : Word) (v : Byte) (h : s.Units) :
    (s.busWrite a v).Units := by
  unfold State.busWrite
  split
  · exact h
  · split
    · rename_i k hk
      exact ⟨h.mem.write v (State.storeKey_inStorage hk), h.ppu, h.idx, h.page, h.serial, h.reload,
        h.params⟩
    · unfold State.registerWrite
      split <;> first
        | exact h
        | exact h.ioWrite _ v
        | (rw [State.cartNotify_state]
           exact ⟨h.mem, h.ppu, h.idx, h.page, h.serial, h.reload, h.params⟩)
        | exact ⟨h.mem, h.ppu, h.idx, h.page, h.serial, h.reload, h.params⟩

theorem State.Settled.memWrite {s : State} (a : Word) (v : Byte) (h : s.Settled) :
    (s.memWrite a v).Settled := (h.units.busWrite a v).mCycle

/-! Reset. -/

theorem inStorage_of_ram {n : Nat} (h : (inWram n || inHram n) = true) : inStorage n = true := by
  revert h
  unfold inStorage
  cases inWram n <;> cases inHram n <;> simp

/-- Memory after a reset keeps its form, whatever `RAM_INIT` is drawn (rule R903). -/
theorem Memory.Inv.reset {m : Memory} (ramInit : List Host.Cell) (h : Memory.Inv m) :
    Memory.Inv (Memory.reset ramInit m) :=
  ⟨Cells.wf_overlay _ _ (Cells.wf_restrict _ h.wf),
    Cells.keysIn_overlay (fun _ => inStorage_of_ram) _ (Cells.keysIn_restrict _ h.keys)⟩

/-- The draw of `RAM_INIT` plays no part in where the PPU starts. -/
theorem Params.Valid.draw {p : Params} (ramInit : List Host.Cell) (h : Params.Valid p) :
    Params.Valid { p with ramInit := ramInit } := ⟨h.line, h.dot, h.mode⟩

end Sys2Proof.Machine
end

