-- ==== Sys2Proof/Laws/Ops.lean ====
section
/-! SUPPORT. What each shared operation of the instructions does, said once: the arithmetic in terms of
numbers, the registers and flags an operation leaves, and the M-cycles it is made of. -/

namespace Sys2Proof.Machine

/-! Times and frames. -/

theorem takes_of {n k f : Nat} {i : Instr} {s t : State} (hf : i.fetches = f)
    (ht : t.clock = s.clock + k) (h : k + 4 * f = n) : Takes n i s t := by
  simp only [Takes, hf, ht]; omega

theorem Cpu.Rest.refl (dst : List Reg8) (c : Cpu) : Cpu.Rest dst c c :=
  ⟨fun _ _ => rfl, rfl, rfl, .refl c⟩

theorem Cpu.Flags.congr {z n h c z' n' h' c' : Bool} {k : Cpu} (hk : Cpu.Flags z n h c k)
    (hz : z = z') (hn : n = n') (hh : h = h') (hc : c = c') : Cpu.Flags z' n' h' c' k := by
  subst hz hn hh hc; exact hk

/-- A register and the flags written: the rest is kept. -/
theorem Cpu.rest_set (r : Reg8) (v : Byte) (k : Computed) (c : Cpu) :
    Cpu.Rest [r] c ((c.leaveFlags k).set r v) := by
  refine ⟨fun q hq => ?_, by simp, by simp, ?_⟩
  · rw [Cpu.get_set_ne (by simpa using hq)]; simp
  · constructor <;> simp

theorem Cpu.flags_set (r : Reg8) (v : Byte) (k : Computed) (c : Cpu) :
    Cpu.Flags k.z k.n k.h k.c ((c.leaveFlags k).set r v) := (Cpu.flags_leaveFlags k c).set r v

/-! Numbers. -/

theorem Word.high_page (n : Byte) : Word.ofBytes 0xFF#8 n = 0xFF00#16 + n.setWidth 16 := by
  apply BitVec.eq_of_toNat_eq
  rw [Word.toNat_ofBytes]
  simp [BitVec.toNat_add]
  omega

/-- A displacement added to a word (rules R302, R564). -/
theorem Word.add_sext (w : Word) (e : Byte) :
    w + Word.sext e = BitVec.ofInt 16 (w.toNat + e.toInt) := by
  unfold Word.sext
  apply BitVec.eq_of_toInt_eq
  rw [BitVec.toInt_add, BitVec.toInt_ofInt, BitVec.toInt_signExtend_of_le (by omega),
    BitVec.toInt_eq_toNat_bmod]
  simp

theorem decide_eq_zero (r : Byte) : decide (r = 0#8) = decide (r.toNat = 0) := by
  apply decide_eq_decide.mpr
  exact ⟨fun h => by simp [h], fun h => BitVec.eq_of_toNat_eq h⟩

theorem toNat_sub_borrow (a v : Byte) (c : Bool) :
    (a - v - (BitVec.ofBool c).setWidth 8).toNat = (a.toNat + 512 - v.toNat - c.toNat) % 256 := by
  have := a.isLt; have := v.isLt
  cases c <;> simp [BitVec.toNat_sub] <;> omega

theorem low_digit_max (v : Byte) : (v &&& 0x0F#8 = 0x0F#8) ↔ v.toNat % 16 = 15 := by
  refine ⟨fun h => ?_, fun h => BitVec.eq_of_toNat_eq ?_⟩
  · have := congrArg BitVec.toNat h
    rw [BitVec.toNat_and] at this
    exact (Nat.and_two_pow_sub_one_eq_mod v.toNat 4).symm.trans this
  · rw [BitVec.toNat_and]
    exact (Nat.and_two_pow_sub_one_eq_mod v.toNat 4).trans h

theorem low_digit_zero (v : Byte) : (v &&& 0x0F#8 = 0x00#8) ↔ v.toNat % 16 = 0 := by
  refine ⟨fun h => ?_, fun h => BitVec.eq_of_toNat_eq ?_⟩
  · have := congrArg BitVec.toNat h
    rw [BitVec.toNat_and] at this
    exact (Nat.and_two_pow_sub_one_eq_mod v.toNat 4).symm.trans this
  · rw [BitVec.toNat_and]
    exact (Nat.and_two_pow_sub_one_eq_mod v.toNat 4).trans h

theorem inc_zero (v : Byte) : decide (v + 1#8 = 0#8) = decide (v.toNat = 255) := by
  rw [decide_eq_zero]; apply decide_eq_decide.mpr
  have := v.isLt
  simp [BitVec.toNat_add]; omega

theorem dec_zero (v : Byte) : decide (v - 1#8 = 0#8) = decide (v.toNat = 1) := by
  rw [decide_eq_zero]; apply decide_eq_decide.mpr
  have := v.isLt
  simp [BitVec.toNat_sub]; omega

/-- Each bit of a rotate's or a shift's result (rule R315). -/
theorem rotCompute_bit (op : Rot) (v : Byte) (cy : Bool) {i : Nat} (hi : i < 8) :
    (rotCompute op v cy).1.getLsbD i = rotatedBit op v cy i := by
  have h : ∀ k : Fin 8, ∀ v : Fin 256, ∀ cy : Bool, ∀ i : Fin 8,
      (rotCompute (rotField k) (BitVec.ofFin v) cy).1.getLsbD i.val =
        rotatedBit (rotField k) (BitVec.ofFin v) cy i.val := by decide +kernel
  have hk : ∃ k, rotField k = op := by
    cases op
    · exact ⟨0, rfl⟩
    · exact ⟨1, rfl⟩
    · exact ⟨2, rfl⟩
    · exact ⟨3, rfl⟩
    · exact ⟨4, rfl⟩
    · exact ⟨5, rfl⟩
    · exact ⟨6, rfl⟩
    · exact ⟨7, rfl⟩
  obtain ⟨k, rfl⟩ := hk
  exact h k v.toFin cy ⟨i, hi⟩

theorem rotCompute_out (op : Rot) (v : Byte) (cy : Bool) :
    (rotCompute op v cy).2 = shiftedOut op v := by
  cases op <;> rfl

/-- Each bit of a byte with one bit cleared or set (rules R544, R546). -/
theorem clearedBit_bit (b : Fin 8) (v : Byte) {i : Nat} (hi : i < 8) :
    (clearedBit b.val v).getLsbD i = (if i = b.val then false else v.getLsbD i) := by
  have h : ∀ b : Fin 8, ∀ v : Fin 256, ∀ i : Fin 8,
      (clearedBit b.val (BitVec.ofFin v)).getLsbD i.val =
        (if i.val = b.val then false else (BitVec.ofFin v : Byte).getLsbD i.val) := by decide +kernel
  exact h b v.toFin ⟨i, hi⟩

theorem raisedBit_bit (b : Fin 8) (v : Byte) {i : Nat} (hi : i < 8) :
    (raisedBit b.val v).getLsbD i = (if i = b.val then true else v.getLsbD i) := by
  have h : ∀ b : Fin 8, ∀ v : Fin 256, ∀ i : Fin 8,
      (raisedBit b.val (BitVec.ofFin v)).getLsbD i.val =
        (if i.val = b.val then true else (BitVec.ofFin v : Byte).getLsbD i.val) := by decide +kernel
  exact h b v.toFin ⟨i, hi⟩

/-! The ALU. -/

/-- What an ALU operation leaves in the CPU. -/
theorem aluOp_cpu (op : Alu) (x : Source) (s : State) :
    (aluOp op x s).cpu =
      let c := (x.read s).2.cpu
      let k := aluCompute op c.a (x.read s).1 c.cy
      { c.leaveFlags k with a := aluResult op c.a k.result } := rfl

/-- A and the flags written: the rest is kept. -/
theorem Cpu.rest_a {c d : Cpu} {k : Computed} {v : Byte}
    (hd : d = { c.leaveFlags k with a := v }) : Cpu.Rest [.a] c d := by
  subst hd
  refine ⟨fun q hq => ?_, rfl, rfl, ⟨rfl, rfl, rfl, rfl, rfl, rfl, rfl, rfl⟩⟩
  cases q <;> simp at hq <;> rfl

theorem Cpu.flags_a {c d : Cpu} {k : Computed} {v : Byte}
    (hd : d = { c.leaveFlags k with a := v }) : Cpu.Flags k.z k.n k.h k.c d := by
  subst hd
  have h := Cpu.flags_leaveFlags k c
  exact ⟨h.1, h.2, h.3, h.4, h.5⟩

/-- Everything an ALU instruction does, in each of its three forms. -/
theorem aluForms_exec {op : Alu} {r : Reg8} {n : Byte} {s : State} {x : AluForm}
    (hx : x ∈ aluForms op r n s) :
    Encoded x.instr x.bytes ∧
    ∃ t, exec x.instr s = .next t ∧ Takes x.cycles x.instr s t ∧
      t.cpu = { s.cpu.leaveFlags (aluCompute op s.cpu.a x.operand s.cpu.cy) with
        a := aluResult op s.cpu.a (aluCompute op s.cpu.a x.operand s.cpu.cy).result } ∧
      State.SameUnits x.after t ∧ Frame s t := by
  simp only [aluForms, List.mem_cons, List.not_mem_nil, or_false] at hx
  rcases hx with rfl | rfl | rfl
  · refine ⟨by cases op <;> cases r <;> exact ⟨rfl, fun _ => rfl⟩, _, exec_aluReg op r s, ?_, ?_,
      ?_, ?_⟩
    · exact takes_of (f := 1) (k := 0) (by cases op <;> cases r <;> rfl) rfl rfl
    · rw [aluOp_cpu]; rfl
    · rfl
    · exact Frame.onCpu (Frame.refl s) (fun _ => (aluOp op (.reg r) s).cpu)
  · refine ⟨by cases op <;> exact ⟨rfl, fun _ => rfl⟩, _, exec_aluAtHl op s, ?_, ?_, ?_, ?_⟩
    · exact takes_of (f := 1) (k := 4) (by cases op <;> rfl) (State.memRead_clock _ s) rfl
    · rw [aluOp_cpu]; simp only [Source.read, State.memRead_cpu]
    · rfl
    · exact (State.memRead_frame s.cpu.hl s).onCpu (fun _ => (aluOp op .atHl s).cpu)
  · refine ⟨by cases op <;> exact ⟨rfl, fun _ => rfl⟩, _, exec_aluImm op n s, ?_, ?_, ?_, ?_⟩
    · exact takes_of (f := 2) (k := 0) (by cases op <;> rfl) rfl rfl
    · rw [aluOp_cpu]; rfl
    · rfl
    · exact Frame.onCpu (Frame.refl s) (fun _ => (aluOp op (.imm n) s).cpu)

/-! Read, compute and write back. -/

/-- A read and a write back at HL as two accesses, when the computation leaves HL. -/
theorem State.modifyAtHl_eq (g : Byte → Cpu → Byte × Cpu) (s : State)
    (hg : ∀ v c, (g v c).2.hl = c.hl) :
    s.modifyAtHl g =
      ((s.memRead s.cpu.hl).2.memWrite s.cpu.hl (g (s.memRead s.cpu.hl).1 s.cpu).1).onCpu
        (fun _ => (g (s.memRead s.cpu.hl).1 s.cpu).2) := by
  unfold State.modifyAtHl
  simp only [State.memRead_cpu, hg, State.memWrite_onCpu]

@[simp] theorem State.modifyAtHl_cpu (g : Byte → Cpu → Byte × Cpu) (s : State) :
    (s.modifyAtHl g).cpu = (g (s.memRead s.cpu.hl).1 s.cpu).2 := by
  unfold State.modifyAtHl
  simp

@[simp] theorem State.modifyAtHl_clock (g : Byte → Cpu → Byte × Cpu) (s : State) :
    (s.modifyAtHl g).clock = s.clock + 8 := by
  unfold State.modifyAtHl
  simp

/-! Control flow. -/

/-- A relative jump is a jump to the sum (rule R564). -/
theorem jumpRel_eq (e : Byte) (s : State) :
    jumpRel e s = jump (BitVec.ofInt 16 (s.cpu.pc.toNat + e.toInt)) s := by
  unfold jumpRel jump State.onCpu Cpu.goto
  simp only [State.internal_cpu, Word.add_sext]

/-- A return as its accesses (rules R568, R714). -/
theorem State.returnPc_eq (s : State) :
    s.returnPc =
      (((s.memRead s.cpu.sp).2.memRead (s.cpu.sp + 1#16)).2.mCycle).onCpu (fun c => { c with
        sp := c.sp + 2#16
        pc := Word.ofBytes ((s.memRead s.cpu.sp).2.memRead (s.cpu.sp + 1#16)).1
          (s.memRead s.cpu.sp).1 }) := by
  unfold State.returnPc
  rw [State.popWord_eq]
  simp only [State.internal_onCpu, State.onCpu_onCpu]; rfl

/-- The row of the CB table, run (rule R525). -/
theorem exec_decodeCb (op : Byte) (s : State) : exec (decodeCb op) s = .next (runCbRow op s) := by
  unfold decodeCb runCbRow
  dsimp only
  cases reg8Field (fieldZ op) with
  | none =>
    generalize fieldX op = x
    match x with
    | 0 => exact exec_rotAtHl _ s
    | 1 => exact exec_bitAtHl _ s
    | 2 => exact exec_resAtHl _ s
    | 3 => exact exec_setAtHl _ s
  | some r =>
    generalize fieldX op = x
    match x with
    | 0 => exact exec_rotReg _ r s
    | 1 => exact exec_bitReg _ r s
    | 2 => exact exec_resReg _ r s
    | 3 => exact exec_setReg _ r s

/-! The interrupts. -/

/-- The lowest pending interrupt (rule R711). -/
theorem Interrupts.lowest_eq {q : Interrupts} {i : Nat} (hi : i < 5)
    (h : q.pending.getLsbD i = true) (hl : ∀ j, j < i → q.pending.getLsbD j = false) :
    q.lowest = i := by
  unfold Interrupts.lowest
  have h0 := hl 0; have h1 := hl 1; have h2 := hl 2; have h3 := hl 3
  interval_cases i <;> simp_all

/-- A dispatch as its accesses (rule R711). -/
theorem State.dispatch_eq {s : State} {i : Nat} (h : s.irq.lowest = i) :
    s.dispatch =
      ((((({ s with irq := s.irq.acknowledge i } : State).mCycle.mCycle).memWrite
        (s.cpu.sp - 1#16) s.cpu.pc.hi).memWrite (s.cpu.sp - 2#16) s.cpu.pc.lo).mCycle).onCpu
        (fun c => { c with
          sp := s.cpu.sp - 2#16, pc := vector i, ime := false, imePending := false
          halted := false, stopped := false }) := by
  have ha : s.acknowledge i = State.onCpu
      (fun c => { c with ime := false, imePending := false, halted := false, stopped := false })
      { s with irq := s.irq.acknowledge i } := rfl
  have hd : s.dispatch = (((s.acknowledge s.irq.lowest).internal.internal).pushWord
      ((s.acknowledge s.irq.lowest).internal.internal).cpu.pc).internal.onCpu
      (fun c => { c with pc := vector s.irq.lowest }) := rfl
  rw [hd, h, ha, State.pushWord_eq]
  generalize hu : ({ s with irq := s.irq.acknowledge i } : State) = u
  have hcpu : u.cpu = s.cpu := by rw [← hu]
  simp only [State.internal_onCpu, State.memWrite_onCpu, State.onCpu_onCpu, State.onCpu_cpu,
    State.internal_cpu, hcpu]
  simp only [State.onCpu, State.internal, State.mCycle_cpu, State.memWrite_cpu, hcpu]

/-! The fetch. -/

theorem State.fetchOpcode_eq (s : State) :
    s.fetchOpcode =
      ((s.busRead s.cpu.pc).1, (s.busRead s.cpu.pc).2.mCycle.onCpu Cpu.afterOpcode) := rfl

/-- A read of WRAM while no DMA runs (rule R201). -/
theorem State.busRead_wram {a : Word} {s : State} (hq : s.dma.active = false)
    (h1 : 0xC000 ≤ a.toNat) (h2 : a.toNat < 0xE000) : s.busRead a = (s.byteAt a.toNat, s) := by
  have hd : decodeAddr a.toNat = .wram := by
    unfold decodeAddr
    rw [if_neg (by omega), if_neg (by omega), if_neg (by omega), if_pos h2]
  unfold State.busRead State.dmaBlocks
  simp [hq, hd, State.byteAt]

end Sys2Proof.Machine
end

