-- ==== Sys2Proof/Laws/Timer.lean ====
section
/-! SUPPORT. The timer: the falling edge of the selected bit is the counter passing a multiple of the
period, and what a step does in each case. -/

namespace Sys2Proof.Machine

/-- A bit of a number falls when the number passes a multiple of twice the bit's weight (rule R761). -/
theorem bit_falls (b n : Nat) :
    (n.testBit b && !(n + 1).testBit b) = decide ((n + 1) % 2 ^ (b + 1) = 0) := by
  rw [Nat.testBit_eq_decide_div_mod_eq, Nat.testBit_eq_decide_div_mod_eq, ← decide_not,
    ← Bool.decide_and]
  apply decide_eq_decide.mpr
  have hp : 0 < 2 ^ b := Nat.two_pow_pos b
  have h2 : 2 ^ (b + 1) = 2 ^ b * 2 := Nat.pow_succ 2 b
  rw [h2, Nat.mod_mul]
  have e1 := Nat.div_add_mod n (2 ^ b)
  have l1 := Nat.mod_lt n hp
  by_cases h : n % 2 ^ b + 1 = 2 ^ b
  · have hs : n + 1 = 2 ^ b * (n / 2 ^ b + 1) := by rw [Nat.mul_add]; omega
    rw [hs, Nat.mul_div_cancel_left _ hp, Nat.mul_mod_right]
    constructor
    · intro hx
      have : (n / 2 ^ b + 1) % 2 = 0 := by omega
      rw [this]; simp
    · intro hx
      have : (n / 2 ^ b + 1) % 2 = 0 := by
        rcases Nat.mod_two_eq_zero_or_one (n / 2 ^ b + 1) with h0 | h0
        · exact h0
        · rw [h0] at hx; omega
      omega
  · have hs : n + 1 = 2 ^ b * (n / 2 ^ b) + (n % 2 ^ b + 1) := by omega
    have hl : n % 2 ^ b + 1 < 2 ^ b := by omega
    have hd : (n + 1) / 2 ^ b = n / 2 ^ b := by
      rw [hs, Nat.mul_add_div hp, Nat.div_eq_of_lt hl]; rfl
    have hm : (n + 1) % 2 ^ b = n % 2 ^ b + 1 := by
      rw [hs, Nat.mul_add_mod, Nat.mod_eq_of_lt hl]
    rw [hd, hm]
    constructor
    · intro hx; omega
    · intro hx
      have := Nat.zero_le (2 ^ b * (n / 2 ^ b % 2))
      omega

/-- The period in T-cycles that TAC selects: twice the weight of its bit (rule R761). -/
def Timer.period (tac : BitVec 3) : Nat := 2 ^ (Timer.selectedBit tac + 1)

theorem Timer.period_cases (tac : BitVec 3) :
    Timer.period tac = 1024 ∨ Timer.period tac = 16 ∨ Timer.period tac = 64 ∨
      Timer.period tac = 256 := by
  unfold Timer.period Timer.selectedBit
  cases tac.getLsbD 1 <;> cases tac.getLsbD 0 <;> simp

theorem Timer.period_dvd (tac : BitVec 3) : Timer.period tac ∣ 65536 := by
  rcases Timer.period_cases tac with h | h | h | h <;> rw [h] <;> decide

/-- The detector's input falls on a T-cycle when the timer is enabled and the counter passes a multiple
of the period. -/
theorem Timer.edge_iff (t : Timer) :
    (t.signal && !({ t with counter := t.counter + 1#16 } : Timer).signal) =
      (t.tac.getLsbD 2 && decide ((t.counter.toNat + 1) % Timer.period t.tac = 0)) := by
  unfold Timer.signal
  dsimp only
  cases h : t.tac.getLsbD 2
  · rfl
  · simp only [Bool.true_and]
    have hb : Timer.selectedBit t.tac < 16 := by
      unfold Timer.selectedBit
      cases t.tac.getLsbD 1 <;> cases t.tac.getLsbD 0 <;> simp
    have hn : (t.counter + 1#16).getLsbD (Timer.selectedBit t.tac) =
        (t.counter.toNat + 1).testBit (Timer.selectedBit t.tac) := by
      unfold BitVec.getLsbD
      rw [BitVec.toNat_add, Nat.testBit_mod_two_pow]
      simp [hb]
    rw [hn]
    exact bit_falls (Timer.selectedBit t.tac) t.counter.toNat

/-- A T-cycle of a timer with no reload under way and the detector in step (rules R760, R761, R763). -/
theorem Timer.step_counting {t : Timer} (hr : t.reload = 0) (hs : t.tsig = t.signal) :
    t.step.2 = false ∧ t.step.1.tsig = t.step.1.signal ∧
    (t.tac.getLsbD 2 = true → (t.counter.toNat + 1) % Timer.period t.tac = 0 → t.tima = 0xFF#8 →
      t.step.1.tima = 0x00#8 ∧ t.step.1.reload = 4) ∧
    (t.tac.getLsbD 2 = true → (t.counter.toNat + 1) % Timer.period t.tac = 0 → t.tima ≠ 0xFF#8 →
      t.step.1.tima = t.tima + 1#8 ∧ t.step.1.reload = 0) ∧
    (t.tac.getLsbD 2 = false ∨ (t.counter.toNat + 1) % Timer.period t.tac ≠ 0 →
      t.step.1.tima = t.tima ∧ t.step.1.reload = 0) := by
  have he := Timer.edge_iff t
  rw [← hs] at he
  have hstep : t.step = (Timer.edgeCheck { t with counter := t.counter + 1#16 }, false) := by
    simp [Timer.step, Timer.reloadStep, hr]
  rw [hstep]
  refine ⟨rfl, ?_, fun h1 h2 h3 => ?_, fun h1 h2 h3 => ?_, fun h => ?_⟩
  · unfold Timer.edgeCheck
    split
    · rename_i hf
      simp only [Bool.and_eq_true, Bool.not_eq_true'] at hf
      have : ∀ u : Timer, u.increment.signal = u.signal := by
        intro u; unfold Timer.increment; split <;> rfl
      show false = ({ Timer.increment _ with tsig := false } : Timer).signal
      exact (((this _).trans hf.2)).symm
    · rfl
  · rw [h1, h2] at he
    unfold Timer.edgeCheck
    dsimp only
    rw [he]
    simp [Timer.increment, h3, Config.reloadDelay]
  · rw [h1, h2] at he
    unfold Timer.edgeCheck
    dsimp only
    rw [he]
    simp [Timer.increment, h3, hr]
  · have hf : (t.tac.getLsbD 2 && decide ((t.counter.toNat + 1) % Timer.period t.tac = 0)) = false := by
      rcases h with h | h
      · rw [h]; rfl
      · rw [decide_eq_false h, Bool.and_false]
    rw [hf] at he
    unfold Timer.edgeCheck
    dsimp only
    rw [he]
    exact ⟨rfl, hr⟩

end Sys2Proof.Machine
end

