-- ==== Sys2Proof/Tests/Slice0.lean ====
section
/-! SUPPORT. Tests. Words of the spec's tables written out bit by bit, the spec's own examples one step each, and for
each statement that has hypotheses a state and operands that meet them together. Expected results are the spec's. -/

namespace Sys2Proof.Tests

set_option Elab.async false

open Sys2Proof.Machine

/-! Well-formedness. -/

/-- The one ill-formed term: the bare prefix (rule R329). -/
theorem test_wf_bare_prefix_refused : Instr.wellFormed .prefixCb = false := by decide

theorem test_wf_nop : Instr.wellFormed .nop = true := by decide

theorem test_wf_illegal_is_complete : Instr.wellFormed .illegalD3 = true ∧ Instr.legal .illegalD3 = false := by
  decide

/-- Too few bytes are rejected, whatever is missing (rule R300). -/
theorem test_decode_rejects_short : (match decode [0xC3#8, 0x00#8] with
    | .ok _ _ => false
    | .reject _ => true) = true := by decide

theorem test_decode_rejects_empty : (match decode [] with
    | .ok _ _ => false
    | .reject _ => true) = true := by decide

/-! Words, bit by bit (rules R300, R310 to R315, R323, R324). -/

/-- `01yyyzzz`, y = 0 (B), z = 1 (C), rule R401. -/
theorem test_word_ld_b_c : decode [0b01000001#8] = .ok .ldBC [] := by decide

/-- `01yyy110`, y = 4 (H), rule R403. -/
theorem test_word_ld_h_at_hl : decode [0b01100110#8] = .ok .ldHAtHl [] := by decide

/-- `01110zzz`, z = 5 (L), rule R404. -/
theorem test_word_ld_at_hl_l : decode [0b01110101#8] = .ok .ldAtHlL [] := by decide

/-- `11pp0101`, p = 3 (AF), rule R434. -/
theorem test_word_push_af : decode [0b11110101#8] = .ok .pushAf [] := by decide

/-- `11pp0001`, p = 1 (DE), rule R435. -/
theorem test_word_pop_de : decode [0b11010001#8] = .ok .popDe [] := by decide

/-- `10 ooo zzz`, o = 3 (SBC), z = 3 (E), rule R470. -/
theorem test_word_sbc_a_e : decode [0b10011011#8] = .ok .sbcAE [] := by decide

/-- `10 ooo 110`, o = 5 (XOR), rule R477. -/
theorem test_word_xor_at_hl : decode [0b10101110#8] = .ok .xorAtHl [] := by decide

/-- `00yyy100`, y = 5 (L), rule R485. -/
theorem test_word_inc_l : decode [0b00101100#8] = .ok .incL [] := by decide

/-- `00pp1001`, p = 1 (DE), rule R501. -/
theorem test_word_add_hl_de : decode [0b00011001#8] = .ok .addHlDe [] := by decide

/-- `00pp1011`, p = 3 (SP), rule R503. -/
theorem test_word_dec_sp : decode [0b00111011#8] = .ok .decSp [] := by decide

/-- `11yyy111`, y = 5, rule R571. -/
theorem test_word_rst_28 : decode [0b11101111#8] = .ok .rst28 [] := by decide

/-- `110cc000`, cc = 2 (NC), rule R569. -/
theorem test_word_ret_nc : decode [0b11010000#8] = .ok .retNc [] := by decide

/-- rule R602. -/
theorem test_word_halt : decode [0b01110110#8] = .ok .halt [] := by decide

/-- rule R606. -/
theorem test_word_illegal_ec : decode [0b11101100#8] = .ok .illegalEC [] := by decide

/-- `00pp0001 lo hi`, p = 2 (HL), low byte first (rules R210, R431). -/
theorem test_word_ld_hl_nn :
    decode [0b00100001#8, 0x34#8, 0x12#8] = .ok (.ldHlNn 0x1234#16) [] := by decide

/-- `001cc000 e`, cc = 3 (C) (rule R565). -/
theorem test_word_jr_c : decode [0b00111000#8, 0x80#8] = .ok (.jrCOff 0x80#8) [] := by decide

/-- `11 ooo 110 n`, o = 7 (CP) (rule R484). -/
theorem test_word_cp_n : decode [0b11111110#8, 0x3C#8] = .ok (.cpN 0x3C#8) [] := by decide

/-- CB `00 ooo zzz`, o = 6 (SWAP), z = 7 (A) (rule R538). -/
theorem test_word_swap_a : decode [0xCB#8, 0b00110111#8] = .ok .swapA [] := by decide

/-- CB `01bbbzzz`, b = 7, z = 4 (H) (rule R542). -/
theorem test_word_bit_7_h : decode [0xCB#8, 0b01111100#8] = .ok .bit7H [] := by decide

/-- CB `10bbb110`, b = 0 (rule R545). -/
theorem test_word_res_0_at_hl : decode [0xCB#8, 0b10000110#8] = .ok .res0AtHl [] := by decide

/-- CB `11bbbzzz`, b = 1, z = 3 (E): the bytes CB CB (rules R525, R546). -/
theorem test_word_set_1_e : decode [0xCB#8, 0xCB#8] = .ok .set1E [] := by decide

/-- STOP's second byte is not interpreted (rule R603). -/
theorem test_word_stop : decode [0x10#8, 0xFF#8] = .ok .stop [] := by decide

/-! One step each: the examples of the rules. -/

/-- A machine with the LCD off that fetches these bytes in WRAM, its CPU as given but for PC. -/
def lab (bytes : List Byte) (c : Cpu) : State :=
  let s : State := State.pokeBytes 0xC000 bytes { State.resetAt false with bootMapped := false }
  { s with cpu := { c with pc := 0xC000#16 } }

/-- A CPU with every register zero. -/
def zero : Cpu := Cpu.reset false

/-- The state a step comes to. -/
def after (s : State) : Option State :=
  match step s with
  | .next t => some t
  | .fault _ => none
  | .refused _ => none

/-- A state with a byte in memory. -/
def with1 (k : Nat) (v : Byte) (s : State) : State := { s with mem := Cells.write s.mem k v }

/-- R401: B = 0x12, `LD A,B` gives A = 0x12. -/
theorem test_ld_a_b :
    (after (lab [0x78#8] { zero with b := 0x12#8 })).map (fun t => t.cpu.a) = some (0x12#8) := by decide +kernel

/-- R402: `LD C,0x7F` gives C = 0x7F, PC advanced by 2. -/
theorem test_ld_c_n :
    (after (lab [0x0E#8, 0x7F#8] zero)).map (fun t => (t.cpu.c, t.cpu.pc)) = some (0x7F#8, 0xC002#16) := by decide +kernel

/-- R403: HL = 0xD000, [HL] = 0x5A, `LD H,(HL)` gives HL = 0x5A00. -/
theorem test_ld_h_at_hl :
    (after (with1 0xD000 0x5A#8 (lab [0x66#8] { zero with h := 0xD0#8 }))).map (fun t => t.cpu.hl) = some (0x5A00#16) := by decide +kernel

/-- R404: HL = 0xD123, `LD (HL),L` writes 0x23 there. -/
theorem test_ld_at_hl_l :
    (after (lab [0x75#8] { zero with h := 0xD1#8, l := 0x23#8 })).map (fun t => t.byteAt 0xD123) = some (0x23#8) := by decide +kernel

/-- R409: DE = 0xE100, A = 0x11 writes 0x11 to WRAM 0xC100 through the echo. -/
theorem test_ld_at_de_a_echo :
    (after (lab [0x12#8] { zero with d := 0xE1#8, a := 0x11#8 })).map (fun t => t.byteAt 0xC100) = some (0x11#8) := by decide +kernel

/-- R411: A = 0x07, `EA FF FF` sets IE = 0x07, which reads 0xE7. -/
theorem test_ld_at_nn_a_ie :
    (after (lab [0xEA#8, 0xFF#8, 0xFF#8] { zero with a := 0x07#8 })).map (fun t => (t.irq.ie, (t.busRead 0xFFFF#16).1)) = some (0x07#5, 0xE7#8) := by decide +kernel

/-- R412: C = 0x0F, IF stored 0x04 gives A = 0xE4. -/
theorem test_ldh_a_at_c :
    (after ({ lab [0xF2#8] { zero with c := 0x0F#8 } with irq := ⟨0#5, 4#5⟩ })).map (fun t => t.cpu.a) = some (0xE4#8) := by decide +kernel

/-- R415: A = 0xC1, `E0 46` starts a DMA from 0xC100. -/
theorem test_ldh_starts_dma :
    (after (lab [0xE0#8, 0x46#8] { zero with a := 0xC1#8 })).map (fun t => (t.dma.active, t.dma.src)) = some (true, 0xC100#16) := by decide +kernel

/-- R416: HL = 0xD0FF, [HL] = 0x77 gives A = 0x77, HL = 0xD100. -/
theorem test_ld_a_at_hli :
    (after (with1 0xD0FF 0x77#8 (lab [0x2A#8] { zero with h := 0xD0#8, l := 0xFF#8 }))).map (fun t => (t.cpu.a, t.cpu.hl)) = some (0x77#8, 0xD100#16) := by decide +kernel

/-- R419: HL = 0x9FFF, A = 0xAA, LCD off, writes VRAM 0x9FFF, HL = 0x9FFE. -/
theorem test_ld_at_hld_a_vram :
    (after (lab [0x32#8] { zero with h := 0x9F#8, l := 0xFF#8, a := 0xAA#8 })).map (fun t => (t.byteAt 0x9FFF, t.cpu.hl)) = some (0xAA#8, 0x9FFE#16) := by decide +kernel

/-- R431: `31 FE FF` gives SP = 0xFFFE. -/
theorem test_ld_sp_nn :
    (after (lab [0x31#8, 0xFE#8, 0xFF#8] zero)).map (fun t => t.cpu.sp) = some (0xFFFE#16) := by decide +kernel

/-- R432: SP = 0xFFF8, `08 00 C1` writes 0xF8 to 0xC100 and 0xFF to 0xC101. -/
theorem test_ld_at_nn_sp :
    (after (lab [0x08#8, 0x00#8, 0xC1#8] { zero with sp := 0xFFF8#16 })).map (fun t => (t.byteAt 0xC100, t.byteAt 0xC101)) = some (0xF8#8, 0xFF#8) := by decide +kernel

/-- R434: SP = 0xFFFE, BC = 0x1234, `PUSH BC` writes 0x12 at 0xFFFD and 0x34 at 0xFFFC. -/
theorem test_push_bc :
    (after (lab [0xC5#8] { zero with sp := 0xFFFE#16, b := 0x12#8, c := 0x34#8 })).map (fun t => (t.byteAt 0xFFFD, t.byteAt 0xFFFC, t.cpu.sp)) = some (0x12#8, 0x34#8, 0xFFFC#16) := by decide +kernel

/-- R435: SP = 0xFFFC, [0xFFFC] = 0x34, [0xFFFD] = 0x12, `POP DE` gives DE = 0x1234. -/
theorem test_pop_de :
    (after (with1 0xFFFD 0x12#8 (with1 0xFFFC 0x34#8 (lab [0xD1#8] { zero with sp := 0xFFFC#16 })))).map (fun t => (t.cpu.de, t.cpu.sp)) = some (0x1234#16, 0xFFFE#16) := by decide +kernel

/-- R436: a popped low byte 0xFF gives F = 0xF0. -/
theorem test_pop_af_masks :
    (after (with1 0xFFFD 0x12#8 (with1 0xFFFC 0xFF#8 (lab [0xF1#8] { zero with sp := 0xFFFC#16 })))).map (fun t => (t.cpu.a, t.cpu.f)) = some (0x12#8, 0xF0#8) := by decide +kernel

/-- R437: SP = 0xFFF8, `F8 08` gives HL = 0x0000, F = 0x30. -/
theorem test_ld_hl_sp_e :
    (after (lab [0xF8#8, 0x08#8] { zero with sp := 0xFFF8#16 })).map (fun t => (t.cpu.hl, t.cpu.f)) = some (0x0000#16, 0x30#8) := by decide +kernel

/-- R461: A = 0x3A, B = 0xC6, `ADD A,B` gives A = 0x00, F = 0xB0. -/
theorem test_add_a_b :
    (after (lab [0x80#8] { zero with a := 0x3A#8, b := 0xC6#8 })).map (fun t => (t.cpu.a, t.cpu.f)) = some (0x00#8, 0xB0#8) := by decide +kernel

/-- R464: A = 0xE1, Cy = 1, B = 0x0F, `ADC A,B` gives A = 0xF1, F = 0x20. -/
theorem test_adc_a_b :
    (after (lab [0x88#8] { zero with a := 0xE1#8, b := 0x0F#8, f := 0x10#8 })).map (fun t => (t.cpu.a, t.cpu.f)) = some (0xF1#8, 0x20#8) := by decide +kernel

/-- R468: A = 0x3E, [HL] = 0x3E, `SUB (HL)` gives A = 0x00, F = 0xC0. -/
theorem test_sub_at_hl :
    (after (with1 0xD000 0x3E#8 (lab [0x96#8] { zero with a := 0x3E#8, h := 0xD0#8 }))).map (fun t => (t.cpu.a, t.cpu.f)) = some (0x00#8, 0xC0#8) := by decide +kernel

/-- R470: `SBC A,A` gives 0xFF (F = 0x70) when Cy = 1. -/
theorem test_sbc_a_a :
    (after (lab [0x9F#8] { zero with a := 0x3B#8, f := 0x10#8 })).map (fun t => (t.cpu.a, t.cpu.f)) = some (0xFF#8, 0x70#8) := by decide +kernel

/-- R473: A = 0x5A, B = 0x3F, `AND B` gives A = 0x1A, F = 0x20. -/
theorem test_and_b :
    (after (lab [0xA0#8] { zero with a := 0x5A#8, b := 0x3F#8 })).map (fun t => (t.cpu.a, t.cpu.f)) = some (0x1A#8, 0x20#8) := by decide +kernel

/-- R478: A = 0xFF, `XOR 0x0F` gives A = 0xF0, F = 0x00. -/
theorem test_xor_n :
    (after (lab [0xEE#8, 0x0F#8] { zero with a := 0xFF#8 })).map (fun t => (t.cpu.a, t.cpu.f)) = some (0xF0#8, 0x00#8) := by decide +kernel

/-- R481: A = 0x00, `OR 0x00` gives A = 0x00, F = 0x80. -/
theorem test_or_zero :
    (after (lab [0xF6#8, 0x00#8] { zero with f := 0x10#8 })).map (fun t => (t.cpu.a, t.cpu.f)) = some (0x00#8, 0x80#8) := by decide +kernel

/-- R485: B = 0x0F, Cy = 1, `INC B` gives B = 0x10, F = 0x30. -/
theorem test_inc_b :
    (after (lab [0x04#8] { zero with b := 0x0F#8, f := 0x10#8 })).map (fun t => (t.cpu.b, t.cpu.f)) = some (0x10#8, 0x30#8) := by decide +kernel

/-- R487: C = 0x10, `DEC C` gives C = 0x0F, N = 1, Hf = 1, Z = 0. -/
theorem test_dec_c :
    (after (lab [0x0D#8] { zero with c := 0x10#8 })).map (fun t => (t.cpu.c, t.cpu.f)) = some (0x0F#8, 0x60#8) := by decide +kernel

/-- R489: A = 0x7D, F = 0x00, `DAA` gives A = 0x83, F = 0x00. -/
theorem test_daa_after_add :
    (after (lab [0x27#8] { zero with a := 0x7D#8 })).map (fun t => (t.cpu.a, t.cpu.f)) = some (0x83#8, 0x00#8) := by decide +kernel

/-- R489: 0x9A with N = Hf = Cy = 0 gives 0x00, Z = 1, Cy = 1. -/
theorem test_daa_9a :
    (after (lab [0x27#8] { zero with a := 0x9A#8 })).map (fun t => (t.cpu.a, t.cpu.f)) = some (0x00#8, 0x90#8) := by decide +kernel

/-- R490: A = 0x35 gives A = 0xCA. -/
theorem test_cpl :
    (after (lab [0x2F#8] { zero with a := 0x35#8 })).map (fun t => (t.cpu.a, t.cpu.f)) = some (0xCA#8, 0x60#8) := by decide +kernel

/-- R491: F = 0xE0 gives F = 0x90. -/
theorem test_scf :
    (after (lab [0x37#8] { zero with f := 0xE0#8 })).map (fun t => t.cpu.f) = some (0x90#8) := by decide +kernel

/-- R501: HL = 0x8A23, BC = 0x0605, F = 0x80, `ADD HL,BC` gives HL = 0x9028, F = 0xA0. -/
theorem test_add_hl_bc :
    (after (lab [0x09#8] { zero with h := 0x8A#8, l := 0x23#8, b := 0x06#8, c := 0x05#8, f := 0x80#8 })).map (fun t => (t.cpu.hl, t.cpu.f)) = some (0x9028#16, 0xA0#8) := by decide +kernel

/-- R502: DE = 0x00FF, `INC DE` gives DE = 0x0100, F unchanged. -/
theorem test_inc_de :
    (after (lab [0x13#8] { zero with e := 0xFF#8, f := 0xF0#8 })).map (fun t => (t.cpu.de, t.cpu.f)) = some (0x0100#16, 0xF0#8) := by decide +kernel

/-- R504: SP = 0x0001, e = -1 gives SP = 0x0000, F = 0x30. -/
theorem test_add_sp_minus_one :
    (after (lab [0xE8#8, 0xFF#8] { zero with sp := 0x0001#16 })).map (fun t => (t.cpu.sp, t.cpu.f)) = some (0x0000#16, 0x30#8) := by decide +kernel

/-- R521: Z is cleared whatever the result. -/
theorem test_rlca :
    (after (lab [0x07#8] { zero with f := 0x80#8 })).map (fun t => (t.cpu.a, t.cpu.f)) = some (0x00#8, 0x00#8) := by decide +kernel

/-- R535: [HL] = 0xFF, `SLA (HL)` gives [HL] = 0xFE, F = 0x10. -/
theorem test_sla_at_hl :
    (after (with1 0xD000 0xFF#8 (lab [0xCB#8, 0x26#8] { zero with h := 0xD0#8 }))).map (fun t => (t.byteAt 0xD000, t.cpu.f)) = some (0xFE#8, 0x10#8) := by decide +kernel

/-- R536: B = 0x8A, `SRA B` gives B = 0xC5, F = 0x00. -/
theorem test_sra_b :
    (after (lab [0xCB#8, 0x28#8] { zero with b := 0x8A#8 })).map (fun t => (t.cpu.b, t.cpu.f)) = some (0xC5#8, 0x00#8) := by decide +kernel

/-- R538: B = 0xF1, Cy = 1, `SWAP B` gives B = 0x1F, F = 0x00. -/
theorem test_swap_b :
    (after (lab [0xCB#8, 0x30#8] { zero with b := 0xF1#8, f := 0x10#8 })).map (fun t => (t.cpu.b, t.cpu.f)) = some (0x1F#8, 0x00#8) := by decide +kernel

/-- R542: H = 0x7F, F = 0x10, `BIT 7,H` gives F = 0xB0, H unchanged. -/
theorem test_bit_7_h :
    (after (lab [0xCB#8, 0x7C#8] { zero with h := 0x7F#8, f := 0x10#8 })).map (fun t => (t.cpu.h, t.cpu.f)) = some (0x7F#8, 0xB0#8) := by decide +kernel

/-- R545: HL = 0xFF0F, IF holds 0x05, `RES 0,(HL)` leaves IF = 0x04. -/
theorem test_res_0_if :
    (after ({ lab [0xCB#8, 0x86#8] { zero with h := 0xFF#8, l := 0x0F#8 } with irq := ⟨0#5, 5#5⟩ })).map (fun t => t.irq.ifr) = some (4#5) := by decide +kernel

/-- R546: E = 0x00, `SET 1,E` (CB CB) gives E = 0x02. -/
theorem test_set_1_e :
    (after (lab [0xCB#8, 0xCB#8] zero)).map (fun t => (t.cpu.e, t.cpu.pc)) = some (0x02#8, 0xC002#16) := by decide +kernel

/-- R525: with HALT_BUG = 1 the fetch of 0xCB does not advance PC, so `CB CB` runs. -/
theorem test_halt_bug_prefix :
    (after (lab [0xCB#8, 0x00#8] { zero with haltBug := true })).map (fun t => (t.cpu.e, t.cpu.pc, t.cpu.haltBug)) = some (0x02#8, 0xC001#16, false) := by decide +kernel

/-- R562: with Cy = 0, `DA 50 01` goes on after the three bytes, in 12 T. -/
theorem test_jp_c_not_taken :
    (after (lab [0xDA#8, 0x50#8, 0x01#8] zero)).map (fun t => (t.cpu.pc, t.clock)) = some (0xC003#16, 12) := by decide +kernel

/-- R565: with Z = 0, `20 80` jumps 126 bytes back, in 12 T. -/
theorem test_jr_nz_back :
    (after (lab [0x20#8, 0x80#8] zero)).map (fun t => (t.cpu.pc, t.clock)) = some (0xBF82#16, 12) := by decide +kernel

/-- R566: SP = 0xFFFE, `CD 34 12` pushes the address after it and gives PC = 0x1234. -/
theorem test_call :
    (after (lab [0xCD#8, 0x34#8, 0x12#8] { zero with sp := 0xFFFE#16 })).map (fun t => (t.byteAt 0xFFFD, t.byteAt 0xFFFC, t.cpu.sp, t.cpu.pc, t.clock)) = some (0xC0#8, 0x03#8, 0xFFFC#16, 0x1234#16, 24) := by decide +kernel

/-- R569: Z = 1, `RET NZ` costs 8 T and goes on. -/
theorem test_ret_nz_not_taken :
    (after (lab [0xC0#8] { zero with f := 0x80#8 })).map (fun t => (t.cpu.pc, t.clock)) = some (0xC001#16, 8) := by decide +kernel

/-- R570: SP = 0xFFFC, stack bytes 0x03, 0x80, IME = 0, `RETI` gives PC = 0x8003, IME = 1. -/
theorem test_reti :
    (after (with1 0xFFFD 0x80#8 (with1 0xFFFC 0x03#8 (lab [0xD9#8] { zero with sp := 0xFFFC#16 })))).map (fun t => (t.cpu.pc, t.cpu.sp, t.cpu.ime)) = some (0x8003#16, 0xFFFE#16, true) := by decide +kernel

/-- R571: SP = 0xFFFE, `RST 38h` gives SP = 0xFFFC, PC = 0x0038. -/
theorem test_rst_38 :
    (after (lab [0xFF#8] { zero with sp := 0xFFFE#16 })).map (fun t => (t.byteAt 0xFFFC, t.cpu.sp, t.cpu.pc)) = some (0x01#8, 0xFFFC#16, 0x0038#16) := by decide +kernel

/-- R602: IME = 0, IE = IF = 0x01: HALT does not halt and sets HALT_BUG. -/
theorem test_halt_sets_bug :
    (after ({ lab [0x76#8] zero with irq := ⟨1#5, 1#5⟩ })).map (fun t => (t.cpu.halted, t.cpu.haltBug)) = some (false, true) := by decide +kernel

/-- R603: IE = 0x04, IF = 0x00, `10 00` goes past both bytes and sets STOPPED. -/
theorem test_stop :
    (after ({ lab [0x10#8, 0x00#8] zero with irq := ⟨4#5, 0#5⟩ })).map (fun t => (t.cpu.pc, t.cpu.stopped, t.clock)) = some (0xC002#16, true, 4) := by decide +kernel

/-- R605: IME = 0, IE = IF = 0x01: after EI no dispatch. -/
theorem test_ei_no_dispatch :
    (after ({ lab [0xFB#8] zero with irq := ⟨1#5, 1#5⟩ })).map (fun t => (t.cpu.pc, t.cpu.ime, t.cpu.imePending)) = some (0xC001#16, false, true) := by decide +kernel

/-- R605: with IME already 1, EI changes nothing observable: the handler is entered with interrupts off. -/
theorem test_ei_with_ime :
    (after ({ lab [0xFB#8] { zero with ime := true, sp := 0xFFFE#16 } with irq := ⟨1#5, 1#5⟩ })).map (fun t => (t.cpu.pc, t.cpu.ime, t.cpu.imePending)) = some (0x0040#16, false, false) := by decide +kernel

/-- R605: the instruction after EI runs, then the VBlank interrupt is dispatched. -/
theorem test_dispatch_after_ei :
    (after ({ lab [0x3C#8] { zero with imePending := true, sp := 0xFFFE#16 } with irq := ⟨1#5, 1#5⟩ })).map (fun t => (t.cpu.a, t.cpu.pc, t.cpu.sp, t.cpu.ime, t.irq.ifr, t.clock)) = some (0x01#8, 0x0040#16, 0xFFFC#16, false, 0#5, 24) := by decide +kernel

/-- R606: the byte 0xD3 sets LOCKED and leaves PC at it. -/
theorem test_illegal_locks :
    (after (lab [0xD3#8] zero)).map (fun t => (t.cpu.locked, t.cpu.pc)) = some (true, 0xC000#16) := by decide +kernel

/-- R730: while LOCKED the step of the machine is the fault. -/
theorem test_locked_faults :
    step (lab [0xD3#8] { zero with locked := true, illegalByte := 0xD3#8 }) =
      .fault (.illegalOpcode 0xC000#16 0xD3#8) := rfl

/-- R322: with HALT_BUG = 1 the byte after HALT runs without PC advanced. -/
theorem test_halt_bug_inc :
    (after (lab [0x3C#8] { zero with haltBug := true })).map (fun t => (t.cpu.a, t.cpu.pc)) =
      some (0x01#8, 0xC000#16) := by decide +kernel

/-- R767: TMA = 0xAB, TIMA = 0xFF, TAC = 0x05: after 16 T-cycles TIMA reads 0x00, after 20 it is TMA with IF[2]. -/
theorem test_timer_reload :
    let s : State := { State.resetAt false with timer := ⟨0#16, 0xFF#8, 0xAB#8, 5#3, 0, false⟩ }
    (State.mCycles 4 s).timer.tima = 0x00#8 ∧ (State.mCycles 4 s).irq.ifr = 0#5 ∧
      (State.mCycles 5 s).timer.tima = 0xAB#8 ∧ (State.mCycles 5 s).irq.ifr = 4#5 := by
  decide +kernel

/-- R860, R861: the LCD turned on is at line 0, dot 0, in mode 2; turned off it is in mode 0. -/
theorem test_lcd_on_off :
    ((State.resetAt false).busWrite 0xFF40#16 0x80#8).ppu.mode = .oamScan ∧
      (((State.resetAt false).busWrite 0xFF40#16 0x80#8).busWrite 0xFF40#16 0x00#8).ppu.mode =
        .hblank := by decide +kernel

/-- R230, R231: the byte at 0xC100 is the first byte of OAM one M-cycle after the write's own. -/
theorem test_dma_first_byte :
    (((with1 0xC100 0x5A#8 (State.resetAt false)).memWrite 0xFF46#16 0xC1#8).mCycle).byteAt 0xFE00 =
      0x5A#8 := by decide +kernel

/-- R911: after the fast boot the next opcode is fetched at 0x0100, with STAT reading 0x86. -/
theorem test_reset_fast_boot :
    State.reset.cpu.pc = 0x0100#16 ∧ State.reset.cpu.af = 0x01B0#16 ∧
      (State.reset.busRead 0xFF41#16).1 = 0x86#8 := by decide +kernel

/-- Memory after reset is in its canonical form. -/
theorem test_reset_memory_wf : Memory.wf State.reset.mem = true := by decide

/-- A table word placed by `withFetchWord` is what the first step runs. -/
theorem test_with_fetch_word :
    (after (State.reset.withFetchWord 16 0x5A3E)).map (fun t => t.cpu.a) = some 0x5A#8 := by
  decide +kernel

/-! Witnesses: states and operands that meet each statement's hypotheses. -/

/-- A machine after the power-on reset, its boot ROM unmapped: the LCD is off. -/
def idle : State := { State.resetAt false with bootMapped := false }

/-- The same with the LCD on, in the given mode. -/
def lit (m : Mode) : State :=
  { idle with ppu := { idle.ppu with lcdc := 0x80#8, line := 10, dot := 100, mode := m } }

theorem witness_Takes : (Instr.fetches .nop = 1) ∧ (Instr.fetches .stop = 1) ∧
    (Instr.fetches .prefixCb = 1) ∧ Instr.fetches .swapA = 2 ∧
    Instr.fetches (.jpNn 0#16) = 3 := by decide

/-- A stored byte in WRAM, and in OAM with no DMA about; and a write that memory does not take. -/
theorem witness_Stores :
    (idle.storeKey 0xC000#16 = some 0xC000 ∧ inOam 0xC000 = false) ∧
    (idle.storeKey 0xFE00#16 = some 0xFE00 ∧ inOam 0xFE00 = true ∧ idle.quiet = true) ∧
    idle.storeKey 0xFF47#16 = none := by decide +kernel

/-- Two stores to two keys, at the wrap from IE to a NoMBC cartridge's ROM, and across the echo's end. -/
theorem witness_StoresTwo :
    (idle.storeKey 0xDFFF#16 = some 0xDFFF ∧
      (idle.memWrite 0xDFFF#16 0x01#8).storeKey (0xDFFF#16 + 1#16) = some 0xC000) ∧
    (idle.storeKey 0xFFFF#16 = none ∧
      (idle.memWrite 0xFFFF#16 0x01#8).storeKey (0xFFFF#16 + 1#16) = none) ∧
    idle.quiet = true ∧ (0xDFFF#16 : Word) ≠ 0xFF46#16 := by decide +kernel

theorem witness_PopPair : (StackPair.de ≠ .af) ∧ (StackPair.af = .af) ∧ StackPair.bc ≠ .de := by decide

theorem witness_AddBytes : (Alu.add = .add ∨ Alu.add = .adc) ∧ (Alu.adc = .add ∨ Alu.adc = .adc) ∧
    (aluForms .adc .b 0x01#8 idle).length = 3 := by decide +kernel

theorem witness_SubtractAndCompareBytes :
    (∀ op ∈ [Alu.sub, .sbc, .cp], (op = .sub ∨ op = .sbc ∨ op = .cp) ∧
      (aluForms op .b 0x01#8 idle).length = 3) := by decide +kernel

theorem witness_LogicBytes :
    (∀ op ∈ [Alu.and, .xor, .or], (op = .and ∨ op = .xor ∨ op = .or) ∧
      (aluForms op .b 0x01#8 idle).length = 3) := by decide +kernel

theorem witness_DecimalAddition :
    let s := lab [] { zero with a := bcd 99, b := bcd 99 }
    99 < 100 ∧ Reg8.b ≠ .a ∧ s.cpu.a = bcd 99 ∧ s.cpu.get .b = bcd 99 := by decide +kernel

/-- Every condition holds of some flags and fails of others. -/
theorem witness_Jump : ∀ cc ∈ [Cond.nz, .z, .nc, .c],
    (condHolds cc zero = true ∧ condHolds cc { zero with f := 0xF0#8 } = false) ∨
    (condHolds cc zero = false ∧ condHolds cc { zero with f := 0xF0#8 } = true) := by decide +kernel

theorem witness_Call : condHolds .nz zero = true ∧ condHolds .z zero = false := by decide +kernel

theorem witness_Return : condHolds .nc zero = true ∧ condHolds .c zero = false := by decide +kernel

/-- IME clear and IME set. -/
theorem witness_NopDiEi : idle.cpu.ime = false ∧
    ({ idle with cpu := { zero with ime := true } } : State).cpu.ime = true := by decide

theorem witness_Halt : (idle.irq.ie &&& idle.irq.ifr = 0#5) ∧
    ((0x04#5 &&& 0x1F#5 : BitVec 5) ≠ 0#5 ∧ ({ zero with ime := true } : Cpu).ime = true ∧
      zero.ime = false) := by decide

theorem witness_Stop : idle.params.stopResetsDiv = false ∧
    ({ Params.default with stopResetsDiv := true } : Params).stopResetsDiv = true := by decide

theorem witness_IllegalOpcodeLocks :
    (idle.raiseIllegal 0xD3#8).hostInputs = [] := by decide

/-- The timer's interrupt is the lowest pending one of two. -/
theorem witness_InterruptCheck :
    let s : State := { lab [] { zero with ime := true } with irq := ⟨0x14#5, 0x14#5⟩ }
    2 < 5 ∧ s.cpu.locked = false ∧ s.cpu.ime = true ∧ (s.irq.ie &&& s.irq.ifr).getLsbD 2 = true ∧
      ∀ j ∈ [0, 1], (s.irq.ie &&& s.irq.ifr).getLsbD j = false := by decide +kernel

theorem witness_InterruptCheck_none :
    ({ idle with cpu := { zero with locked := true } } : State).cpu.locked = true ∧
      idle.cpu.ime = false ∧ idle.irq.ie &&& idle.irq.ifr = 0#5 := by decide

theorem witness_HaltedStep :
    let s : State := lab [] { zero with halted := true }
    let u : State := { lab [] { zero with stopped := true } with irq := ⟨0x01#5, 0x01#5⟩ }
    (s.hostInputs = [] ∧ s.cpu.locked = false ∧ s.cpu.halted = true ∧
      s.mCycle.irq.ie &&& s.mCycle.irq.ifr = 0#5) ∧
    (u.hostInputs = [] ∧ u.cpu.locked = false ∧ u.cpu.stopped = true ∧
      u.mCycle.irq.ie &&& u.mCycle.irq.ifr ≠ 0#5) := by decide +kernel

theorem witness_StepRunsDecoded :
    let s := lab [0x3E#8, 0x5A#8] zero
    let op := s.fetchOpcode
    let bs := op.2.fetchOperands (operandBytes op.1)
    s.hostInputs = [] ∧ s.cpu.halted = false ∧ s.cpu.stopped = false ∧ s.cpu.locked = false ∧
      decode [op.1, bs.1.1, bs.1.2] = .ok (.ldAN 0x5A#8) [0x00#8] ∧
      Instr.wellFormed (.ldAN 0x5A#8) = true := by decide +kernel

/-- At both ends of WRAM. -/
theorem witness_StepRunsMemory :
    let s := lab [0x3E#8, 0x5A#8] zero
    let u : State := { idle with cpu := { zero with pc := 0xDFFD#16 } }
    (s.hostInputs = [] ∧ s.cpu.halted = false ∧ s.cpu.stopped = false ∧ s.cpu.locked = false ∧
      s.cpu.haltBug = false ∧ s.quiet = true ∧ 0xC000 ≤ s.cpu.pc.toNat ∧
      s.cpu.pc.toNat + 2 < 0xE000 ∧
      decode [s.byteAt s.cpu.pc.toNat, s.byteAt (s.cpu.pc.toNat + 1),
        s.byteAt (s.cpu.pc.toNat + 2)] = .ok (.ldAN 0x5A#8) [0x00#8]) ∧
    (u.quiet = true ∧ 0xC000 ≤ u.cpu.pc.toNat ∧ u.cpu.pc.toNat + 2 < 0xE000 ∧
      decode [u.byteAt 0xDFFD, u.byteAt 0xDFFE, u.byteAt 0xDFFF] = .ok .nop [0x00#8, 0x00#8]) := by
  decide +kernel

theorem witness_OnlyLockedFaults : idle.takeInput.cpu.locked = false ∧
    ({ idle with cpu := { zero with locked := true } } : State).takeInput.cpu.locked = true := by
  decide

theorem witness_ControlBitWriters : ∃ t, exec .nop idle = .next t := ⟨idle, rfl⟩

theorem witness_RequestSources : idle.ppu.line ≤ 153 ∧ idle.ppu.dot ≤ 455 ∧
    (lit .hblank).ppu.lcdc.getLsbD 7 = true := by decide +kernel

theorem witness_DecodeEncode : ∀ i ∈ [Instr.nop, .stop, .illegalD3, .swapA, .jpNn 0x0150#16],
    i.wellFormed = true := by decide

/-- CPU reads at the ends of each range of the bus decode (rules R200 to R202, R220, R221). -/
theorem witness_BusReadMap :
    let s : State := { idle with
      bootMapped := true, params := { Params.default with bootRom := List.replicate 256 0x31#8 }
      mem := [(0x0000, 0x01#8), (0x0100, 0x02#8), (0x7FFF, 0x03#8), (0x8000, 0x04#8), (0x9FFF, 0x05#8),
        (0xA000, 0x06#8), (0xBFFF, 0x07#8), (0xC000, 0x08#8), (0xDDFF, 0x09#8), (0xDFFF, 0x0A#8),
        (0xFE00, 0x0B#8), (0xFE9F, 0x0C#8), (0xFF80, 0x0D#8), (0xFFFE, 0x0E#8)] }
    s.dma.active = false ∧
    [0x0000#16, 0x00FF#16, 0x0100#16, 0x7FFF#16, 0x8000#16, 0x9FFF#16, 0xA000#16, 0xBFFF#16, 0xC000#16,
      0xDFFF#16, 0xE000#16, 0xFDFF#16, 0xFE00#16, 0xFE9F#16, 0xFEA0#16, 0xFEFF#16, 0xFF80#16, 0xFFFE#16,
      0xFFFF#16].map (fun a => (s.busRead a).1) =
    [0x31#8, 0x31#8, 0x02#8, 0x03#8, 0x04#8, 0x05#8, 0x06#8, 0x07#8, 0x08#8, 0x0A#8, 0x08#8, 0x09#8, 0x0B#8,
      0x0C#8, 0xFF#8, 0xFF#8, 0x0D#8, 0x0E#8, 0xE0#8] := by decide +kernel

theorem witness_BusReadMap_carts : ({ idle with cart := .noMbc false } : State).cart = .noMbc false ∧
    idle.cart = .noMbc true := by decide

/-- The I/O page: the ends of the APU's range and addresses with no owner. -/
theorem witness_IoReadMap : idle.dma.active = false ∧
    [0xFF03#16, 0xFF10#16, 0xFF3F#16, 0xFF4C#16, 0xFF7F#16].map (fun a => (idle.busRead a).1) =
      [0xFF#8, 0xFF#8, 0xFF#8, 0xFF#8, 0xFF#8] ∧
    (0xFF03#16 : Word) ∉ ioRegisters ∧ (0xFF7F#16 : Word) ∉ ioRegisters := by decide +kernel

theorem witness_BlockedAccess :
    ({ idle with dma := { idle.dma with active := true } } : State).dma.active = true ∧
    ((lit .drawing).ppu.lcdc.getLsbD 7 = true ∧ (lit .drawing).ppu.mode = .drawing) ∧
    ((lit .oamScan).ppu.lcdc.getLsbD 7 = true ∧ (lit .oamScan).ppu.mode = .oamScan) := by
  decide +kernel

theorem witness_MemoryWritesReadBack : idle.dma.active = false ∧
    [0xC000#16, 0xDFFF#16, 0xE000#16, 0xFDFF#16, 0xFF80#16, 0xFFFE#16, 0x8000#16, 0x9FFF#16, 0xFE00#16,
      0xFE9F#16, 0xA000#16, 0xBFFF#16].all
        (fun a => ((idle.busWrite a 0x5A#8).busRead a).1 = 0x5A#8) = true ∧
    ((idle.busWrite 0xC000#16 0x5A#8).busRead 0xE000#16).1 = 0x5A#8 ∧
    ((idle.busWrite 0xFDFF#16 0x5A#8).busRead 0xDDFF#16).1 = 0x5A#8 ∧
    [0x0000#16, 0x7FFF#16, 0xFEA0#16, 0xFEFF#16].all (fun a => idle.busWrite a 0x5A#8 = idle) = true := by
  decide +kernel

/-- The addresses that ignore a write, at their bounds; both kinds of write of SC; a write of LCDC that keeps
bit 7. -/
theorem witness_IoWriteMap : idle.dma.active = false ∧
    [0xFF10#16, 0xFF3F#16, 0xFF4C#16, 0xFF7F#16, 0xFF03#16, 0xFF0E#16, 0xFF44#16].all
      (fun a => idle.busWrite a 0x5A#8 = idle) = true ∧
    ((0x81#8).getLsbD 7 = true ∧ (0x81#8).getLsbD 0 = true) ∧
    ¬((0x80#8).getLsbD 7 = true ∧ (0x80#8).getLsbD 0 = true) ∧
    (0x11#8).getLsbD 7 = idle.ppu.lcdc.getLsbD 7 := by decide +kernel

/-- R870: with button A held and neither group selected, a write of P1 that selects the buttons requests the
joypad interrupt. -/
theorem test_p1_write_requests :
    let s : State := { idle with joypad := ⟨3#2, 0xF#4, 0x01#8⟩ }
    ((s.busWrite 0xFF00#16 0x10#8).joypad.low, (s.busWrite 0xFF00#16 0x10#8).irq.ifr) =
      (0xE#4, 0b10000#5) := by decide +kernel

/-- R823: in mode 0 with the LCD on, a write of STAT that enables the mode-0 source requests the interrupt. -/
theorem test_stat_write_requests :
    (((lit .hblank).busWrite 0xFF41#16 0x08#8).ppu.statline,
      ((lit .hblank).busWrite 0xFF41#16 0x08#8).irq.ifr.getLsbD 1) = (true, true) := by decide +kernel

/-- R240: a device is told each event with its time, the host's time among them. -/
theorem test_device_is_told :
    let s : State := { idle with cart := .device [], clock := 8 }
    (((HostInput.hostTime 7).apply s).cartRead 0x4000).2.cart =
      .device [⟨8, .read 0x4000⟩, ⟨8, .hostTime 7⟩] := by decide +kernel

/-- TIMA with the timer on, up to 255 and no further, and with it off. -/
theorem witness_TimerCounts :
    let s : State := { idle with timer := ⟨0x0000#16, 0xFE#8, 0x00#8, 5#3, 0, false⟩ }
    (s.timer.reload = 0 ∧ s.timer.tsig = s.timer.signal ∧ s.timer.tac.getLsbD 2 = true ∧
      s.timer.tima.toNat + (s.timer.counter.toNat % timerPeriod s.timer.tac + 4 * 4) /
        timerPeriod s.timer.tac ≤ 255) ∧
    (idle.timer.reload = 0 ∧ idle.timer.tsig = idle.timer.signal ∧
      idle.timer.tac.getLsbD 2 = false) := by decide +kernel

theorem witness_TimerOverflow :
    let t : Timer := ⟨0x000F#16, 0xFF#8, 0xAB#8, 5#3, 0, true⟩
    t.tima = 0xFF#8 ∧ t.reload = 0 ∧ t.tsig = true ∧ t.tac.getLsbD 2 = true ∧
      (t.counter.toNat + 1) % timerPeriod t.tac = 0 := by decide +kernel

theorem witness_TimerWrites : idle.dma.active = false ∧
    (({ idle with timer := ⟨0x0008#16, 0x00#8, 0x00#8, 5#3, 0, true⟩ } : State).busWrite
      0xFF04#16 0x00#8).timer.tima = 0x01#8 := by decide +kernel

theorem witness_PpuPosition : (idle.ppu.line ≤ 153 ∧ idle.ppu.dot ≤ 455 ∧
      idle.ppu.lcdc.getLsbD 7 = false) ∧
    ((lit .hblank).ppu.line ≤ 153 ∧ (lit .hblank).ppu.dot ≤ 455 ∧
      (lit .hblank).ppu.lcdc.getLsbD 7 = true) := by decide +kernel

theorem witness_OamScanSelects :
    let p : Ppu := { idle.ppu with lcdc := 0x80#8, line := 142, dot := 455, mode := .hblank }
    let q : Ppu := { idle.ppu with lcdc := 0x80#8, line := 153, dot := 455, mode := .vblank }
    (p.lcdc.getLsbD 7 = true ∧ p.dot = 455 ∧ p.line < 143) ∧
    (q.lcdc.getLsbD 7 = true ∧ q.dot = 455 ∧ q.line = 153) := by decide +kernel

/-- A sprite pixel that shows, one that is transparent, one behind the background. -/
theorem witness_PixelComposition :
    let p : Ppu := { idle.ppu with lcdc := 0x93#8, bgp := 0xE4#8, obp0 := 0x1B#8 }
    (p.compose 2#2 (some ⟨1#2, false, false⟩)).toNat = 2 ∧
    (p.compose 2#2 (some ⟨0#2, false, false⟩)).toNat = 2 ∧
    (p.compose 3#2 (some ⟨1#2, false, true⟩)).toNat = 3 ∧
    (p.compose 0#2 (some ⟨1#2, false, true⟩)).toNat = 2 ∧ (p.compose 1#2 none).toNat = 1 := by
  decide +kernel

theorem witness_LcdOffAndOn : idle.dma.active = false ∧ idle.ppu.lcdc.getLsbD 7 = false ∧
    (lit .drawing).dma.active = false ∧ (lit .drawing).ppu.lcdc.getLsbD 7 = true ∧
    (0x80#8).getLsbD 7 = true ∧ (0x00#8).getLsbD 7 = false := by decide +kernel

theorem witness_params : Params.Valid Params.default := ⟨by decide, by decide, (by decide : (0 : Nat) < 144 ∧ (0 : Nat) < 80)⟩

/-- Two memories that differ in WRAM alone. -/
theorem witness_PpuReadsVideoMemoryOnly :
    (Ppu.reset Params.default true).Inv ∧
    (∀ k, 0x8000 ≤ k ∧ k < 0xA000 ∨ 0xFE00 ≤ k ∧ k < 0xFEA0 →
      Cells.read ([] : Memory) k = Cells.read ([(0xC000, 0x01#8)] : Memory) k) := by
  refine ⟨Ppu.Inv.reset true witness_params, fun k hk => ?_⟩
  have h : (0xC000 : Nat) ≠ k := by omega
  simp [Cells.read, h, Cells.unlisted]

/-- Each kind of source, and the ends of the transfer. -/
theorem witness_DmaTransfer : idle.dma.active = false ∧ idle.cart = .noMbc true ∧
    (0x80 ≤ (0x80#8 : Byte).toNat ∧ (0x80#8 : Byte).toNat < 0xA0) ∧ 0xC0 ≤ (0xC0#8 : Byte).toNat ∧
    (160 : Nat) ≤ 160 := by decide

theorem witness_SerialTransfer : idle.dma.active = false ∧
    (0x81#8).getLsbD 7 = true ∧ (0x81#8).getLsbD 0 = true ∧ (0x80#8).getLsbD 0 = false := by
  decide +kernel

theorem witness_ResetValues : idle.joypad.input = 0x00#8 ∧ idle.params.fastbootLine = 0 ∧
    idle.params.fastbootDot = 0 ∧ idle.params.fastbootMode = .oamScan := by decide

/-- R903: two resets, each with its own draw of RAM_INIT: WRAM and HRAM hold the last one, and VRAM, which no
draw reaches, is zero. -/
theorem test_reset_draws_ram :
    let s := (HostInput.reset true [(0xC000, 0x11#8), (0xFF80, 0x22#8)]).apply idle
    let t := (HostInput.reset true [(0xC001, 0x33#8), (0x8000, 0x44#8)]).apply s
    ((s.byteAt 0xC000, s.byteAt 0xFF80), [0xC000, 0xC001, 0xFF80, 0x8000].map (fun k => t.byteAt k)) =
      ((0x11#8, 0x22#8), [0x00#8, 0x33#8, 0x00#8, 0x00#8]) := by decide +kernel

theorem witness_InvariantAtReset : Memory.Inv idle.mem ∧ Params.Valid idle.params :=
  ⟨⟨rfl, rfl⟩, witness_params⟩

/-- The idle machine meets the invariant, and steps. -/
theorem witness_InvariantKept : idle.Inv ∧ ∃ t, step idle = .next t := by
  refine ⟨⟨⟨by decide, fun h => by cases h⟩, ⟨rfl, rfl⟩, Ppu.Inv.reset false witness_params,
    ⟨Nat.zero_le _, (fun h => by cases h), rfl, by decide⟩,
    ⟨Nat.zero_le _, fun h => absurd rfl h⟩, Nat.zero_le _, witness_params⟩, ?_⟩
  have h : (after idle).isSome = true := by decide +kernel
  unfold after at h
  split at h
  · exact ⟨_, by assumption⟩
  · cases h
  · cases h

theorem witness_StepTakesTime : idle.hostInputs = [] ∧ (after idle).isSome = true := by
  decide +kernel

theorem witness_RomNeverChanges : idle.cart = .noMbc true ∧ (after idle).isSome = true := by
  decide +kernel

end Sys2Proof.Tests
end

section
/-! PROOF. How long a step takes (rules R6, R905, R941): the M-cycles of each shared operation, of a
fetch, of every instruction with its fetch, and of a dispatch. -/

namespace Sys2Proof.Machine

/-! The clock over the shared operations. -/

@[simp] theorem State.fetch8_clock (s : State) : s.fetch8.2.clock = s.clock + 4 :=
  State.memRead_clock _ s

@[simp] theorem State.fetchOpcode_clock (s : State) : s.fetchOpcode.2.clock = s.clock + 4 :=
  State.memRead_clock _ s

@[simp] theorem State.pushWord_clock (v : Word) (s : State) :
    (s.pushWord v).clock = s.clock + 8 := by
  simp [State.pushWord_eq]

@[simp] theorem State.popWord_clock (s : State) : s.popWord.2.clock = s.clock + 8 := by
  simp [State.popWord_eq]

@[simp] theorem State.returnPc_clock (s : State) : s.returnPc.clock = s.clock + 12 := by
  simp [State.returnPc]

@[simp] theorem State.dispatch_clock (s : State) : s.dispatch.clock = s.clock + 20 := by
  simp [State.dispatch]

/-! A bound on the M-cycles between two states. -/

/-- From `s` to `t` at most `m` whole M-cycles pass (rule R905). -/
def WithinMCycles (m : Nat) (s t : State) : Prop := ∃ k ≤ m, t.clock = s.clock + 4 * k

theorem WithinMCycles.of_clock {k : Nat} {s t : State} (h : t.clock = s.clock + 4 * k) :
    WithinMCycles k s t := ⟨k, Nat.le_refl k, h⟩

theorem WithinMCycles.mono {m n : Nat} {s t : State} (h : WithinMCycles m s t) (hmn : m ≤ n) :
    WithinMCycles n s t := by
  obtain ⟨k, hk, hc⟩ := h
  exact ⟨k, hk.trans hmn, hc⟩

/-- A guarded operation passes no more M-cycles than the operation. -/
theorem WithinMCycles.guarded {m : Nat} {s t : State} (c : Prop) [Decidable c]
    (h : WithinMCycles m s t) : WithinMCycles m s (if c then t else s) := by
  split
  · exact h
  · exact ⟨0, Nat.zero_le m, rfl⟩

theorem Source.read_within (x : Source) (s : State) : WithinMCycles 1 s (x.read s).2 := by
  cases x with
  | atHl => exact .of_clock (State.memRead_clock _ s)
  | reg r => exact ⟨0, Nat.zero_le 1, rfl⟩
  | imm n => exact ⟨0, Nat.zero_le 1, rfl⟩

theorem loadReg_within (r : Reg8) (x : Source) (s : State) : WithinMCycles 1 s (loadReg r x s) :=
  x.read_within s

theorem aluOp_within (op : Alu) (x : Source) (s : State) : WithinMCycles 1 s (aluOp op x s) :=
  x.read_within s

theorem testBit_within (b : Nat) (x : Source) (s : State) : WithinMCycles 1 s (testBit b x s) :=
  x.read_within s

theorem State.modifyAtHl_within (g : Byte → Cpu → Byte × Cpu) (s : State) :
    WithinMCycles 2 s (s.modifyAtHl g) := .of_clock (State.modifyAtHl_clock g s)

theorem State.onCpu_within (f : Cpu → Cpu) (s : State) : WithinMCycles 0 s (s.onCpu f) :=
  .of_clock rfl

theorem store_within (x : Place) (v : Byte) (s : State) : WithinMCycles 1 s (store x v s) :=
  .of_clock (State.memWrite_clock _ v s)

theorem storeAStep_within (d : Word) (s : State) : WithinMCycles 1 s (storeAStep d s) :=
  store_within .hl s.cpu.a s

theorem loadA_within (x : Place) (s : State) : WithinMCycles 1 s (loadA x s) :=
  .of_clock (State.memRead_clock _ s)

theorem loadAStep_within (d : Word) (s : State) : WithinMCycles 1 s (loadAStep d s) :=
  loadA_within .hl s

theorem addHl_within (p : Pair) (s : State) : WithinMCycles 1 s (addHl p s) :=
  .of_clock (by simp [addHl])

theorem incPair_within (p : Pair) (s : State) : WithinMCycles 1 s (incPair p s) :=
  .of_clock (by simp [incPair])

theorem decPair_within (p : Pair) (s : State) : WithinMCycles 1 s (decPair p s) :=
  .of_clock (by simp [decPair])

theorem addSp_within (e : Byte) (s : State) : WithinMCycles 2 s (addSp e s) :=
  .of_clock (by simp [addSp])

theorem loadSpHl_within (s : State) : WithinMCycles 1 s (loadSpHl s) :=
  .of_clock (by simp [loadSpHl])

theorem loadHlSp_within (e : Byte) (s : State) : WithinMCycles 1 s (loadHlSp e s) :=
  .of_clock (by simp [loadHlSp])

theorem storeSp_within (nn : Word) (s : State) : WithinMCycles 2 s (storeSp nn s) :=
  .of_clock (by simp [storeSp])

theorem push_within (r : StackPair) (s : State) : WithinMCycles 3 s (push r s) :=
  .of_clock (by simp [push])

theorem pop_within (r : StackPair) (s : State) : WithinMCycles 2 s (pop r s) :=
  .of_clock (by simp [pop])

theorem jumpRel_within (e : Byte) (s : State) : WithinMCycles 1 s (jumpRel e s) :=
  .of_clock (State.internal_clock s)

theorem jumpRelIf_within (cc : Cond) (e : Byte) (s : State) :
    WithinMCycles 1 s (jumpRelIf cc e s) := (jumpRel_within e s).guarded _

theorem jump_within (nn : Word) (s : State) : WithinMCycles 1 s (jump nn s) :=
  .of_clock (State.internal_clock s)

theorem jumpIf_within (cc : Cond) (nn : Word) (s : State) : WithinMCycles 1 s (jumpIf cc nn s) :=
  (jump_within nn s).guarded _

theorem call_within (nn : Word) (s : State) : WithinMCycles 3 s (call nn s) :=
  .of_clock (by simp [call])

theorem callIf_within (cc : Cond) (nn : Word) (s : State) : WithinMCycles 3 s (callIf cc nn s) :=
  (call_within nn s).guarded _

theorem restart_within (y : Nat) (s : State) : WithinMCycles 3 s (restart y s) :=
  .of_clock (by simp [restart])

theorem State.returnPc_within (s : State) : WithinMCycles 3 s s.returnPc :=
  .of_clock (State.returnPc_clock s)

theorem returnEnable_within (s : State) : WithinMCycles 3 s (returnEnable s) := s.returnPc_within

/-- The condition of `RET cc` takes an M-cycle, the return three more (rule R569). -/
theorem returnIf_within (cc : Cond) (s : State) : WithinMCycles 4 s (returnIf cc s) := by
  unfold returnIf
  dsimp only
  split
  · exact ⟨4, Nat.le_refl 4, by simp⟩
  · exact ⟨1, by decide, by simp⟩

theorem halt_within (s : State) : WithinMCycles 0 s (halt s) := by
  unfold halt
  split
  · exact State.onCpu_within _ s
  · split
    · exact ⟨0, Nat.le_refl 0, rfl⟩
    · exact State.onCpu_within _ s

theorem stop_within (s : State) : WithinMCycles 0 s (stop s) := by
  unfold stop State.stopDiv
  dsimp only
  split <;> exact .of_clock rfl

/-- A row of the CB table reads and writes at most one byte (rules R526 to R547). -/
theorem runCbRow_within (op : Byte) (s : State) : WithinMCycles 2 s (runCbRow op s) := by
  unfold runCbRow
  dsimp only
  split
  · exact (State.onCpu_within _ s).mono (by decide)
  · exact State.modifyAtHl_within _ s
  · exact (testBit_within _ _ s).mono (by decide)
  · exact (testBit_within _ _ s).mono (by decide)
  · exact (State.onCpu_within _ s).mono (by decide)
  · exact State.modifyAtHl_within _ s
  · exact (State.onCpu_within _ s).mono (by decide)
  · exact State.modifyAtHl_within _ s

theorem runPrefixed_within (s : State) : WithinMCycles 3 s (runPrefixed s) := by
  obtain ⟨k, hk, hc⟩ := runCbRow_within s.fetch8.1 s.fetch8.2
  rw [State.fetch8_clock] at hc
  refine ⟨k + 1, by omega, ?_⟩
  calc (runPrefixed s).clock = s.clock + 4 + 4 * k := hc
    _ = s.clock + 4 * (k + 1) := by omega

theorem State.interruptCheck_within (s : State) : WithinMCycles 5 s s.interruptCheck :=
  (WithinMCycles.of_clock (State.dispatch_clock s)).guarded _

/-! The instructions. -/

/-- The instruction takes from one to six M-cycles, with those of its fetch, from any state
its fetch leaves (rule R941). -/
def Instr.TakesAtMostSix (i : Instr) : Prop :=
  ∀ s, ∃ t n, exec i s = .next t ∧ Takes (4 * n) i s t ∧ 1 ≤ n ∧ n ≤ 6

/-- The M-cycles of an instruction are its `n` fetches and the `m` at most of its operation. -/
theorem Instr.takesAtMostSix_of (n m : Nat) {i : Instr} {f : State → State}
    (he : ∀ s, exec i s = .next (f s)) (hn : i.fetches = n) (hm : ∀ s, WithinMCycles m s (f s))
    (h1 : 1 ≤ n := by decide) (h6 : n + m ≤ 6 := by decide) : TakesAtMostSix i := by
  intro s
  obtain ⟨k, hk, hc⟩ := hm s
  exact ⟨f s, k + n, he s, takes_of hn hc (by omega), by omega, by omega⟩

theorem fetches_ldReg (x y : Reg8) : (Instr.ldReg x y).fetches = 1 := by
  cases x <;> cases y <;> rfl

theorem fetches_aluReg (x : Alu) (y : Reg8) : (Instr.aluReg x y).fetches = 1 := by
  cases x <;> cases y <;> rfl

theorem fetches_rotReg (x : Rot) (y : Reg8) : (Instr.rotReg x y).fetches = 2 := by
  cases x <;> cases y <;> rfl

theorem fetches_bitReg (x : Fin 8) (y : Reg8) : (Instr.bitReg x y).fetches = 2 := by
  fin_cases x <;> cases y <;> rfl

theorem fetches_resReg (x : Fin 8) (y : Reg8) : (Instr.resReg x y).fetches = 2 := by
  fin_cases x <;> cases y <;> rfl

theorem fetches_setReg (x : Fin 8) (y : Reg8) : (Instr.setReg x y).fetches = 2 := by
  fin_cases x <;> cases y <;> rfl

/-- Rule R941, over the forms of `Instr.byShape`: each line gives the form's fetches and the
bound of its operation. -/
theorem Instr.takesAtMostSix (i : Instr) : TakesAtMostSix i := by
  induction i using Instr.byShape with
  | h_ldReg x y =>
    exact takesAtMostSix_of 1 1 (exec_ldReg x y) (fetches_ldReg x y) (loadReg_within x _)
  | h_ldRegImm x n =>
    exact takesAtMostSix_of 2 1 (exec_ldRegImm x n) (by cases x <;> rfl) (loadReg_within x _)
  | h_ldRegAtHl x =>
    exact takesAtMostSix_of 1 1 (exec_ldRegAtHl x) (by cases x <;> rfl) (loadReg_within x _)
  | h_ldAtHlReg x =>
    exact takesAtMostSix_of 1 1 (exec_ldAtHlReg x) (by cases x <;> rfl)
      (fun s => store_within .hl _ s)
  | h_aluReg x y =>
    exact takesAtMostSix_of 1 1 (exec_aluReg x y) (fetches_aluReg x y) (aluOp_within x _)
  | h_aluAtHl x =>
    exact takesAtMostSix_of 1 1 (exec_aluAtHl x) (by cases x <;> rfl) (aluOp_within x _)
  | h_aluImm x n =>
    exact takesAtMostSix_of 2 1 (exec_aluImm x n) (by cases x <;> rfl) (aluOp_within x _)
  | h_incReg x =>
    exact takesAtMostSix_of 1 0 (exec_incReg x) (by cases x <;> rfl) (State.onCpu_within _)
  | h_decReg x =>
    exact takesAtMostSix_of 1 0 (exec_decReg x) (by cases x <;> rfl) (State.onCpu_within _)
  | h_ldPair x nn =>
    exact takesAtMostSix_of 3 0 (exec_ldPair x nn) (by cases x <;> rfl) (State.onCpu_within _)
  | h_addHlPair x =>
    exact takesAtMostSix_of 1 1 (exec_addHlPair x) (by cases x <;> rfl) (addHl_within x)
  | h_incPair x =>
    exact takesAtMostSix_of 1 1 (exec_incPair x) (by cases x <;> rfl) (incPair_within x)
  | h_decPair x =>
    exact takesAtMostSix_of 1 1 (exec_decPair x) (by cases x <;> rfl) (decPair_within x)
  | h_push x => exact takesAtMostSix_of 1 3 (exec_push x) (by cases x <;> rfl) (push_within x)
  | h_pop x => exact takesAtMostSix_of 1 2 (exec_pop x) (by cases x <;> rfl) (pop_within x)
  | h_jrCond x e =>
    exact takesAtMostSix_of 2 1 (exec_jrCond x e) (by cases x <;> rfl) (jumpRelIf_within x e)
  | h_jpCond x nn =>
    exact takesAtMostSix_of 3 1 (exec_jpCond x nn) (by cases x <;> rfl) (jumpIf_within x nn)
  | h_callCond x nn =>
    exact takesAtMostSix_of 3 3 (exec_callCond x nn) (by cases x <;> rfl) (callIf_within x nn)
  | h_retCond x =>
    exact takesAtMostSix_of 1 4 (exec_retCond x) (by cases x <;> rfl) (returnIf_within x)
  | h_rst x =>
    exact takesAtMostSix_of 1 3 (exec_rst x) (by fin_cases x <;> rfl) (restart_within x.val)
  | h_rotReg x y =>
    exact takesAtMostSix_of 2 0 (exec_rotReg x y) (fetches_rotReg x y) (State.onCpu_within _)
  | h_rotAtHl x =>
    exact takesAtMostSix_of 2 2 (exec_rotAtHl x) (by cases x <;> rfl) (State.modifyAtHl_within _)
  | h_bitReg x y =>
    exact takesAtMostSix_of 2 1 (exec_bitReg x y) (fetches_bitReg x y) (testBit_within _ _)
  | h_bitAtHl x =>
    exact takesAtMostSix_of 2 1 (exec_bitAtHl x) (by fin_cases x <;> rfl) (testBit_within _ _)
  | h_resReg x y =>
    exact takesAtMostSix_of 2 0 (exec_resReg x y) (fetches_resReg x y) (State.onCpu_within _)
  | h_resAtHl x =>
    exact takesAtMostSix_of 2 2 (exec_resAtHl x) (by fin_cases x <;> rfl)
      (State.modifyAtHl_within _)
  | h_setReg x y =>
    exact takesAtMostSix_of 2 0 (exec_setReg x y) (fetches_setReg x y) (State.onCpu_within _)
  | h_setAtHl x =>
    exact takesAtMostSix_of 2 2 (exec_setAtHl x) (by fin_cases x <;> rfl)
      (State.modifyAtHl_within _)
  -- One byte, and no M-cycle but its fetch.
  | h_rlca | h_rrca | h_rla | h_rra | h_daa | h_cpl | h_scf | h_ccf | h_jpHl | h_di | h_ei
  | h_illegalD3 | h_illegalDB | h_illegalDD | h_illegalE3 | h_illegalE4 | h_illegalEB | h_illegalEC
  | h_illegalED | h_illegalF4 | h_illegalFC | h_illegalFD =>
    exact takesAtMostSix_of 1 0 (fun _ => rfl) rfl (State.onCpu_within _)
  | h_nop => exact takesAtMostSix_of 1 0 (fun _ => rfl) rfl (fun _ => .of_clock rfl)
  | h_halt => exact takesAtMostSix_of 1 0 (fun _ => rfl) rfl halt_within
  | h_stop => exact takesAtMostSix_of 1 0 (fun _ => rfl) rfl stop_within
  -- One access to memory.
  | h_ldAtBcA | h_ldAtDeA | h_ldhAtCA =>
    exact takesAtMostSix_of 1 1 (fun _ => rfl) rfl (fun s => store_within _ _ s)
  | h_ldAtHlN | h_ldhAtNA =>
    exact takesAtMostSix_of 2 1 (fun _ => rfl) rfl (fun s => store_within _ _ s)
  | h_ldAtNnA nn => exact takesAtMostSix_of 3 1 (fun _ => rfl) rfl (fun s => store_within _ _ s)
  | h_ldAtHliA | h_ldAtHldA => exact takesAtMostSix_of 1 1 (fun _ => rfl) rfl (storeAStep_within _)
  | h_ldAAtBc | h_ldAAtDe | h_ldhAAtC =>
    exact takesAtMostSix_of 1 1 (fun _ => rfl) rfl (loadA_within _)
  | h_ldhAAtN n => exact takesAtMostSix_of 2 1 (fun _ => rfl) rfl (loadA_within _)
  | h_ldAAtNn nn => exact takesAtMostSix_of 3 1 (fun _ => rfl) rfl (loadA_within _)
  | h_ldAAtHli | h_ldAAtHld => exact takesAtMostSix_of 1 1 (fun _ => rfl) rfl (loadAStep_within _)
  -- Two accesses to memory.
  | h_ldAtNnSp nn => exact takesAtMostSix_of 3 2 (fun _ => rfl) rfl (storeSp_within nn)
  | h_incAtHl | h_decAtHl =>
    exact takesAtMostSix_of 1 2 (fun _ => rfl) rfl (State.modifyAtHl_within _)
  -- Internal M-cycles.
  | h_ldSpHl => exact takesAtMostSix_of 1 1 (fun _ => rfl) rfl loadSpHl_within
  | h_ldHlSpOff e => exact takesAtMostSix_of 2 1 (fun _ => rfl) rfl (loadHlSp_within e)
  | h_addSpOff e => exact takesAtMostSix_of 2 2 (fun _ => rfl) rfl (addSp_within e)
  -- Jumps, calls and returns, and 0xCB.
  | h_jrOff e => exact takesAtMostSix_of 2 1 (fun _ => rfl) rfl (jumpRel_within e)
  | h_jpNn nn => exact takesAtMostSix_of 3 1 (fun _ => rfl) rfl (jump_within nn)
  | h_callNn nn => exact takesAtMostSix_of 3 3 (fun _ => rfl) rfl (call_within nn)
  | h_ret => exact takesAtMostSix_of 1 3 (fun _ => rfl) rfl State.returnPc_within
  | h_reti => exact takesAtMostSix_of 1 3 (fun _ => rfl) rfl returnEnable_within
  | h_prefixCb => exact takesAtMostSix_of 1 3 (fun _ => rfl) rfl runPrefixed_within

/-! The step. -/

/-- Each operand byte is fetched in an M-cycle of its own (rule R300). -/
theorem State.fetchOperands_clock {n : Nat} (hn : n = 0 ∨ n = 1 ∨ n = 2) (s : State) :
    (s.fetchOperands n).2.clock = s.clock + 4 * n := by
  rcases hn with rfl | rfl | rfl
  · rfl
  · exact State.fetch8_clock s
  · simp [State.fetchOperands]

/-- A fetch takes an M-cycle for each byte it reads (rules R300, R320). -/
theorem State.fetch_clock (s : State) : s.fetch.2.clock = s.clock + 4 * s.fetch.1.fetches := by
  unfold State.fetch
  dsimp only
  rw [fetches_decodeOp, State.fetchOperands_clock (operandBytes_cases _), State.fetchOpcode_clock]
  omega

theorem State.takeInput_of_none {s : State} (h : s.hostInputs = []) : s.takeInput = s := by
  unfold State.takeInput
  rw [h]

/-- An instruction and the dispatch after it (rules R710, R941). -/
theorem State.runInstruction_within {s t : State} (h : s.runInstruction = .next t) :
    ∃ k, 1 ≤ k ∧ k ≤ 11 ∧ t.clock = s.clock + 4 * k := by
  obtain ⟨u, n, hu, htakes, h1, h6⟩ := Instr.takesAtMostSix s.fetch.1 s.fetch.2
  have ht : u.interruptCheck = t := by
    unfold State.runInstruction at h
    dsimp only at h
    rw [hu] at h
    exact Host.Outcome.next.inj h
  obtain ⟨d, hd, hcheck⟩ := u.interruptCheck_within
  have hfetch := s.fetch_clock
  rw [ht] at hcheck
  unfold Takes at htakes
  exact ⟨n + d, by omega, by omega, by omega⟩

/-- An idle M-cycle and the dispatch after it (rule R720). -/
theorem State.idle_within (s : State) :
    ∃ k, 1 ≤ k ∧ k ≤ 6 ∧ s.idle.clock = s.clock + 4 * k := by
  unfold State.idle
  dsimp only
  split
  · exact ⟨1, by decide, by decide, State.mCycle_clock s⟩
  · obtain ⟨d, hd, hcheck⟩ := State.interruptCheck_within
      (s.mCycle.onCpu (fun c => { c with halted := false, stopped := false }))
    rw [State.onCpu_clock, State.mCycle_clock] at hcheck
    exact ⟨1 + d, by omega, by omega, by omega⟩

/-- Settles O59: a running CPU takes the one to six M-cycles of its instruction, a halted or stopped
one its idle M-cycle, and either takes at most the five of a dispatch after them. -/
theorem stepTakesTime : Obligations.StepTakesTime := by
  unfold Obligations.StepTakesTime
  intro s t hin hstep
  unfold step at hstep
  rw [State.takeInput_of_none hin] at hstep
  unfold State.runCpu at hstep
  split at hstep
  · cases hstep
  · split at hstep
    · obtain rfl := Host.Outcome.next.inj hstep
      obtain ⟨k, h1, h6, hc⟩ := s.idle_within
      exact ⟨k, h1, by omega, hc⟩
    · exact State.runInstruction_within hstep

end Sys2Proof.Machine
end

section
/-! PROOF. The role of each instruction: a plain one keeps the invariant and every control bit, and the
others are DI, EI, RETI, HALT, STOP and the illegal opcodes (rules R105 to R109). -/

namespace Sys2Proof.Machine

/-! What a plain operation keeps. -/

/-- From `c` to `d` the low bits of F stay zero (rule R106) and the control bits are as they were. -/
structure Cpu.Plain (c d : Cpu) : Prop where
  low : c.f &&& 0x0F#8 = 0x00#8 → d.f &&& 0x0F#8 = 0x00#8
  control : c.SameControl d

/-- From `s` to `t` the invariant of the units is kept, and of the CPU what `Cpu.Plain` says. -/
structure State.Plain (s t : State) : Prop where
  settled : s.Settled → t.Settled
  cpu : s.cpu.Plain t.cpu

theorem Cpu.Plain.refl (c : Cpu) : c.Plain c := ⟨id, .refl c⟩

theorem Cpu.Plain.trans {a b c : Cpu} (h : a.Plain b) (h' : b.Plain c) : a.Plain c :=
  ⟨h'.low ∘ h.low, h.control.trans h'.control⟩

theorem State.Plain.refl (s : State) : s.Plain s := ⟨id, .refl _⟩

theorem State.Plain.trans {s t u : State} (h : s.Plain t) (h' : t.Plain u) : s.Plain u :=
  ⟨h'.settled ∘ h.settled, h.cpu.trans h'.cpu⟩

/-- A guarded operation is plain when the operation is. -/
theorem State.Plain.guarded {s t : State} (c : Prop) [Decidable c] (h : s.Plain t) :
    s.Plain (if c then t else s) := by
  split
  · exact h
  · exact .refl s

/-! The CPU's updates. -/

/-- An update that writes neither F nor a control bit. -/
theorem Cpu.Plain.of_f_eq {c d : Cpu} (hf : d.f = c.f) (hc : c.SameControl d) : c.Plain d :=
  ⟨fun h => hf ▸ h, hc⟩

theorem Cpu.plain_set (r : Reg8) (v : Byte) (c : Cpu) : c.Plain (c.set r v) := by
  cases r <;> exact .of_f_eq rfl ⟨rfl, rfl, rfl, rfl, rfl, rfl, rfl, rfl⟩

theorem Cpu.plain_setHl (v : Word) (c : Cpu) : c.Plain (c.setHl v) :=
  .of_f_eq rfl ⟨rfl, rfl, rfl, rfl, rfl, rfl, rfl, rfl⟩

theorem Cpu.plain_setSp (v : Word) (c : Cpu) : c.Plain { c with sp := v } :=
  .of_f_eq rfl ⟨rfl, rfl, rfl, rfl, rfl, rfl, rfl, rfl⟩

theorem Cpu.plain_goto (v : Word) (c : Cpu) : c.Plain (c.goto v) :=
  .of_f_eq rfl ⟨rfl, rfl, rfl, rfl, rfl, rfl, rfl, rfl⟩

theorem Cpu.plain_setPair (r : Pair) (v : Word) (c : Cpu) : c.Plain (c.setPair r v) := by
  cases r <;> exact .of_f_eq rfl ⟨rfl, rfl, rfl, rfl, rfl, rfl, rfl, rfl⟩

/-- Flags packed into F leave its low bits zero (rule R105). -/
theorem Cpu.plain_setFlags (z n h cy : Bool) (c : Cpu) : c.Plain (c.setFlags z n h cy) :=
  ⟨fun _ => (Cpu.flags_setFlags z n h cy c).low, ⟨rfl, rfl, rfl, rfl, rfl, rfl, rfl, rfl⟩⟩

theorem Cpu.plain_leaveFlags (k : Computed) (c : Cpu) : c.Plain (c.leaveFlags k) :=
  Cpu.plain_setFlags k.z k.n k.h k.c c

theorem Cpu.plain_offsetFlags (e : Byte) (c : Cpu) : c.Plain (c.offsetFlags e) :=
  Cpu.plain_setFlags _ _ _ _ c

theorem Cpu.plain_addHlFlags (v : Word) (c : Cpu) : c.Plain (c.addHlFlags v) :=
  Cpu.plain_setFlags _ _ _ _ c

/-- A computed byte's flags left, and a register written. -/
theorem Cpu.plain_leaveReg (r : Reg8) (k : Computed) (c : Cpu) :
    c.Plain ((c.leaveFlags k).set r k.result) :=
  (Cpu.plain_leaveFlags k c).trans (Cpu.plain_set r _ _)

theorem Cpu.plain_leaveA (k : Computed) (v : Byte) (c : Cpu) :
    c.Plain { c.leaveFlags k with a := v } :=
  (Cpu.plain_leaveFlags k c).trans (Cpu.plain_set .a v _)

theorem masked_low (v : Byte) : v &&& 0xF0#8 &&& 0x0F#8 = 0x00#8 := by
  rw [BitVec.and_assoc]
  exact BitVec.and_zero

/-- POP AF masks what it writes to F (rule R436). -/
theorem Cpu.plain_setStack (r : StackPair) (v : Word) (c : Cpu) : c.Plain (c.setStack r v) := by
  cases r with
  | bc => exact .of_f_eq rfl ⟨rfl, rfl, rfl, rfl, rfl, rfl, rfl, rfl⟩
  | de => exact .of_f_eq rfl ⟨rfl, rfl, rfl, rfl, rfl, rfl, rfl, rfl⟩
  | hl => exact Cpu.plain_setHl v c
  | af => exact ⟨fun _ => masked_low v.lo, ⟨rfl, rfl, rfl, rfl, rfl, rfl, rfl, rfl⟩⟩

/-! The accesses. -/

theorem State.Plain.of_cpu_eq {s t : State} (hs : s.Settled → t.Settled) (hc : t.cpu = s.cpu) :
    s.Plain t := ⟨hs, hc ▸ .refl _⟩

section

variable {s t : State} (h : s.Plain t)
include h

theorem State.Plain.onCpu {f : Cpu → Cpu} (hf : ∀ c : Cpu, c.Plain (f c)) : s.Plain (t.onCpu f) :=
  h.trans ⟨State.Settled.onCpu f, hf t.cpu⟩

theorem State.Plain.memRead (a : Word) : s.Plain (t.memRead a).2 :=
  h.trans (.of_cpu_eq (State.Settled.memRead a) (State.memRead_cpu a t))

theorem State.Plain.memWrite (a : Word) (v : Byte) : s.Plain (t.memWrite a v) :=
  h.trans (.of_cpu_eq (State.Settled.memWrite a v) (State.memWrite_cpu a v t))

theorem State.Plain.internal : s.Plain t.internal :=
  h.trans (.of_cpu_eq State.Settled.internal (State.internal_cpu t))

theorem State.Plain.fetch8 : s.Plain t.fetch8.2 :=
  (h.memRead t.cpu.pc).onCpu (fun c => Cpu.plain_goto (c.pc + 1#16) c)

theorem State.Plain.pushWord (v : Word) : s.Plain (t.pushWord v) := by
  rw [State.pushWord_eq]
  exact ((h.memWrite _ _).memWrite _ _).onCpu (fun c => Cpu.plain_setSp (c.sp - 2#16) c)

theorem State.Plain.popWord : s.Plain t.popWord.2 := by
  rw [State.popWord_eq]
  exact ((h.memRead _).memRead _).onCpu (fun c => Cpu.plain_setSp (c.sp + 2#16) c)

theorem State.Plain.returnPc : s.Plain t.returnPc :=
  h.popWord.internal.onCpu (fun c => Cpu.plain_goto t.popWord.1 c)

theorem State.Plain.source (x : Source) : s.Plain (x.read t).2 := by
  cases x with
  | atHl => exact h.memRead _
  | reg r => exact h
  | imm n => exact h

end

theorem State.onCpu_plain {f : Cpu → Cpu} (hf : ∀ c : Cpu, c.Plain (f c)) (s : State) :
    s.Plain (s.onCpu f) := (State.Plain.refl s).onCpu hf

theorem State.modifyAtHl_plain {g : Byte → Cpu → Byte × Cpu} (hg : ∀ v (c : Cpu), c.Plain (g v c).2)
    (s : State) : s.Plain (s.modifyAtHl g) :=
  have hr := (State.Plain.refl s).memRead s.cpu.hl
  have hw : s.Plain ((s.memRead s.cpu.hl).2.onCpu
      (fun _ => (g (s.memRead s.cpu.hl).1 (s.memRead s.cpu.hl).2.cpu).2)) :=
    hr.trans ⟨State.Settled.onCpu _, hg _ _⟩
  hw.memWrite _ _

/-! The loads and the stack. -/

theorem loadReg_plain (r : Reg8) (x : Source) (s : State) : s.Plain (loadReg r x s) :=
  ((State.Plain.refl s).source x).onCpu (Cpu.plain_set r _)

theorem loadA_plain (x : Place) (s : State) : s.Plain (loadA x s) :=
  ((State.Plain.refl s).memRead _).onCpu (Cpu.plain_set .a _)

theorem store_plain (x : Place) (v : Byte) (s : State) : s.Plain (store x v s) :=
  (State.Plain.refl s).memWrite _ v

theorem loadAStep_plain (d : Word) (s : State) : s.Plain (loadAStep d s) :=
  (loadA_plain .hl s).onCpu (fun c => Cpu.plain_setHl (c.hl + d) c)

theorem storeAStep_plain (d : Word) (s : State) : s.Plain (storeAStep d s) :=
  (store_plain .hl s.cpu.a s).onCpu (fun c => Cpu.plain_setHl (c.hl + d) c)

theorem loadPair_plain (p : Pair) (nn : Word) (s : State) : s.Plain (loadPair p nn s) :=
  State.onCpu_plain (Cpu.plain_setPair p nn) s

theorem storeSp_plain (nn : Word) (s : State) : s.Plain (storeSp nn s) :=
  ((State.Plain.refl s).memWrite _ _).memWrite _ _

theorem loadSpHl_plain (s : State) : s.Plain (loadSpHl s) :=
  (State.onCpu_plain (fun c => Cpu.plain_setSp c.hl c) s).internal

theorem loadHlSp_plain (e : Byte) (s : State) : s.Plain (loadHlSp e s) :=
  (State.onCpu_plain (Cpu.plain_offsetFlags e) s).internal.onCpu (fun c => Cpu.plain_setHl _ c)

theorem push_plain (r : StackPair) (s : State) : s.Plain (push r s) :=
  (State.Plain.refl s).internal.pushWord _

theorem pop_plain (r : StackPair) (s : State) : s.Plain (pop r s) :=
  (State.Plain.refl s).popWord.onCpu (Cpu.plain_setStack r _)

/-! Arithmetic, rotates and bits. -/

theorem aluOp_plain (op : Alu) (x : Source) (s : State) : s.Plain (aluOp op x s) :=
  ((State.Plain.refl s).source x).onCpu (fun c => Cpu.plain_leaveA _ _ c)

theorem incReg_plain (r : Reg8) (s : State) : s.Plain (incReg r s) :=
  State.onCpu_plain (fun c => Cpu.plain_leaveReg r (incFlags (c.get r) c.cy) c) s

theorem decReg_plain (r : Reg8) (s : State) : s.Plain (decReg r s) :=
  State.onCpu_plain (fun c => Cpu.plain_leaveReg r (decFlags (c.get r) c.cy) c) s

theorem incAtHl_plain (s : State) : s.Plain (incAtHl s) :=
  State.modifyAtHl_plain (fun _ _ => Cpu.plain_leaveFlags _ _) s

theorem decAtHl_plain (s : State) : s.Plain (decAtHl s) :=
  State.modifyAtHl_plain (fun _ _ => Cpu.plain_leaveFlags _ _) s

theorem daa_plain (s : State) : s.Plain (daa s) :=
  State.onCpu_plain (fun c => Cpu.plain_leaveA (daaFlags c.a c.n c.hf c.cy) _ c) s

theorem cpl_plain (s : State) : s.Plain (cpl s) :=
  State.onCpu_plain (fun c => (Cpu.plain_setFlags c.z true true c.cy c).trans
    (Cpu.plain_set .a (~~~c.a) _)) s

theorem scf_plain (s : State) : s.Plain (scf s) :=
  State.onCpu_plain (fun c => Cpu.plain_setFlags c.z false false true c) s

theorem ccf_plain (s : State) : s.Plain (ccf s) :=
  State.onCpu_plain (fun c => Cpu.plain_setFlags c.z false false (!c.cy) c) s

theorem addHl_plain (p : Pair) (s : State) : s.Plain (addHl p s) :=
  (State.onCpu_plain (Cpu.plain_addHlFlags (s.cpu.getPair p)) s).internal.onCpu
    (Cpu.plain_setHl _)

theorem incPair_plain (p : Pair) (s : State) : s.Plain (incPair p s) :=
  (State.Plain.refl s).internal.onCpu (fun c => Cpu.plain_setPair p (c.getPair p + 1#16) c)

theorem decPair_plain (p : Pair) (s : State) : s.Plain (decPair p s) :=
  (State.Plain.refl s).internal.onCpu (fun c => Cpu.plain_setPair p (c.getPair p - 1#16) c)

theorem addSp_plain (e : Byte) (s : State) : s.Plain (addSp e s) :=
  (State.onCpu_plain (Cpu.plain_offsetFlags e) s).internal.internal.onCpu
    (fun c => Cpu.plain_setSp (c.sp + Word.sext e) c)

theorem rotA_plain (op : Rot) (s : State) : s.Plain (rotA op s) :=
  State.onCpu_plain (fun c => (Cpu.plain_setFlags false false false (rotCompute op c.a c.cy).2 c).trans
    (Cpu.plain_set .a (rotCompute op c.a c.cy).1 _)) s

theorem rotReg_plain (op : Rot) (r : Reg8) (s : State) : s.Plain (rotReg op r s) :=
  State.onCpu_plain (fun c => Cpu.plain_leaveReg r (rotFlags op (c.get r) c.cy) c) s

theorem rotAtHl_plain (op : Rot) (s : State) : s.Plain (rotAtHl op s) :=
  State.modifyAtHl_plain (fun _ _ => Cpu.plain_leaveFlags _ _) s

theorem testBit_plain (b : Nat) (x : Source) (s : State) : s.Plain (testBit b x s) :=
  ((State.Plain.refl s).source x).onCpu (fun c => Cpu.plain_setFlags _ _ _ _ c)

theorem resetBit_plain (b : Nat) (r : Reg8) (s : State) : s.Plain (resetBit b r s) :=
  State.onCpu_plain (fun c => Cpu.plain_set r (clearedBit b (c.get r)) c) s

theorem setBit_plain (b : Nat) (r : Reg8) (s : State) : s.Plain (setBit b r s) :=
  State.onCpu_plain (fun c => Cpu.plain_set r (raisedBit b (c.get r)) c) s

theorem resetBitAtHl_plain (b : Nat) (s : State) : s.Plain (resetBitAtHl b s) :=
  State.modifyAtHl_plain (fun _ c => .refl c) s

theorem setBitAtHl_plain (b : Nat) (s : State) : s.Plain (setBitAtHl b s) :=
  State.modifyAtHl_plain (fun _ c => .refl c) s

theorem runCbRow_plain (op : Byte) (s : State) : s.Plain (runCbRow op s) := by
  unfold runCbRow
  dsimp only
  split
  · exact rotReg_plain _ _ s
  · exact rotAtHl_plain _ s
  · exact testBit_plain _ _ s
  · exact testBit_plain _ _ s
  · exact resetBit_plain _ _ s
  · exact resetBitAtHl_plain _ s
  · exact setBit_plain _ _ s
  · exact setBitAtHl_plain _ s

theorem runPrefixed_plain (s : State) : s.Plain (runPrefixed s) :=
  (State.Plain.refl s).fetch8.trans (runCbRow_plain s.fetch8.1 s.fetch8.2)

/-! Jumps, calls and returns. -/

theorem jump_plain (nn : Word) (s : State) : s.Plain (jump nn s) :=
  (State.Plain.refl s).internal.onCpu (Cpu.plain_goto nn)

theorem jumpHl_plain (s : State) : s.Plain (jumpHl s) :=
  State.onCpu_plain (fun c => Cpu.plain_goto c.hl c) s

theorem jumpRel_plain (e : Byte) (s : State) : s.Plain (jumpRel e s) :=
  (State.Plain.refl s).internal.onCpu (fun c => Cpu.plain_goto (c.pc + Word.sext e) c)

theorem call_plain (nn : Word) (s : State) : s.Plain (call nn s) :=
  ((State.Plain.refl s).internal.pushWord s.cpu.pc).onCpu (Cpu.plain_goto nn)

theorem jumpIf_plain (cc : Cond) (nn : Word) (s : State) : s.Plain (jumpIf cc nn s) :=
  (jump_plain nn s).guarded _

theorem jumpRelIf_plain (cc : Cond) (e : Byte) (s : State) : s.Plain (jumpRelIf cc e s) :=
  (jumpRel_plain e s).guarded _

theorem callIf_plain (cc : Cond) (nn : Word) (s : State) : s.Plain (callIf cc nn s) :=
  (call_plain nn s).guarded _

theorem restart_plain (y : Nat) (s : State) : s.Plain (restart y s) := call_plain _ s

theorem returnIf_plain (cc : Cond) (s : State) : s.Plain (returnIf cc s) :=
  (State.Plain.refl s).internal.trans ((State.Plain.refl s.internal).returnPc.guarded _)

/-! The roles. -/

/-- Every outcome of the instruction is reached by a plain operation. -/
def Instr.Plain (i : Instr) : Prop := ∀ s, ∃ t, exec i s = .next t ∧ s.Plain t

theorem Instr.plain_of {i : Instr} {f : State → State} (he : ∀ s, exec i s = .next (f s))
    (hp : ∀ s : State, s.Plain (f s)) : Instr.Plain i := fun s => ⟨f s, he s, hp s⟩

/-- Who writes the control bits: an instruction is plain, or one of those that write them. -/
inductive Instr.Role : Instr → Prop where
  | plain {i : Instr} (h : Instr.Plain i) : Role i
  | di : Role .di
  | ei : Role .ei
  | reti : Role .reti
  | halt : Role .halt
  | stop : Role .stop
  | illegal {i : Instr} {op : Byte} (hop : op ∈ illegalBytes) (hi : i.legal = false)
      (he : ∀ s, exec i s = .next (s.raiseIllegal op)) : Role i

/-- The role of every instruction, over the forms of `Instr.byShape`. -/
theorem Instr.role (i : Instr) : Instr.Role i := by
  induction i using Instr.byShape with
  | h_ldReg x y => exact .plain (plain_of (exec_ldReg x y) (loadReg_plain x _))
  | h_ldRegImm x n => exact .plain (plain_of (exec_ldRegImm x n) (loadReg_plain x _))
  | h_ldRegAtHl x => exact .plain (plain_of (exec_ldRegAtHl x) (loadReg_plain x _))
  | h_ldAtHlReg x => exact .plain (plain_of (exec_ldAtHlReg x) (fun s => store_plain .hl _ s))
  | h_aluReg x y => exact .plain (plain_of (exec_aluReg x y) (aluOp_plain x _))
  | h_aluAtHl x => exact .plain (plain_of (exec_aluAtHl x) (aluOp_plain x _))
  | h_aluImm x n => exact .plain (plain_of (exec_aluImm x n) (aluOp_plain x _))
  | h_incReg x => exact .plain (plain_of (exec_incReg x) (incReg_plain x))
  | h_decReg x => exact .plain (plain_of (exec_decReg x) (decReg_plain x))
  | h_ldPair x nn => exact .plain (plain_of (exec_ldPair x nn) (loadPair_plain x nn))
  | h_addHlPair x => exact .plain (plain_of (exec_addHlPair x) (addHl_plain x))
  | h_incPair x => exact .plain (plain_of (exec_incPair x) (incPair_plain x))
  | h_decPair x => exact .plain (plain_of (exec_decPair x) (decPair_plain x))
  | h_push x => exact .plain (plain_of (exec_push x) (push_plain x))
  | h_pop x => exact .plain (plain_of (exec_pop x) (pop_plain x))
  | h_jrCond x e =>
    exact .plain (plain_of (exec_jrCond x e) (jumpRelIf_plain x e))
  | h_jpCond x nn =>
    exact .plain (plain_of (exec_jpCond x nn) (jumpIf_plain x nn))
  | h_callCond x nn =>
    exact .plain (plain_of (exec_callCond x nn) (callIf_plain x nn))
  | h_retCond x => exact .plain (plain_of (exec_retCond x) (returnIf_plain x))
  | h_rst x => exact .plain (plain_of (exec_rst x) (restart_plain x.val))
  | h_rotReg x y => exact .plain (plain_of (exec_rotReg x y) (rotReg_plain x y))
  | h_rotAtHl x => exact .plain (plain_of (exec_rotAtHl x) (rotAtHl_plain x))
  | h_bitReg x y => exact .plain (plain_of (exec_bitReg x y) (testBit_plain x.val _))
  | h_bitAtHl x => exact .plain (plain_of (exec_bitAtHl x) (testBit_plain x.val _))
  | h_resReg x y => exact .plain (plain_of (exec_resReg x y) (resetBit_plain x.val y))
  | h_resAtHl x => exact .plain (plain_of (exec_resAtHl x) (resetBitAtHl_plain x.val))
  | h_setReg x y => exact .plain (plain_of (exec_setReg x y) (setBit_plain x.val y))
  | h_setAtHl x => exact .plain (plain_of (exec_setAtHl x) (setBitAtHl_plain x.val))
  | h_nop => exact .plain (plain_of (fun _ => rfl) State.Plain.refl)
  | h_ldAtBcA | h_ldAtDeA | h_ldhAtCA | h_ldAtHlN | h_ldhAtNA | h_ldAtNnA =>
    exact .plain (plain_of (fun _ => rfl) (fun s => store_plain _ _ s))
  | h_ldAtHliA | h_ldAtHldA => exact .plain (plain_of (fun _ => rfl) (storeAStep_plain _))
  | h_ldAAtBc | h_ldAAtDe | h_ldhAAtC | h_ldhAAtN | h_ldAAtNn =>
    exact .plain (plain_of (fun _ => rfl) (loadA_plain _))
  | h_ldAAtHli | h_ldAAtHld => exact .plain (plain_of (fun _ => rfl) (loadAStep_plain _))
  | h_ldAtNnSp nn => exact .plain (plain_of (fun _ => rfl) (storeSp_plain nn))
  | h_ldSpHl => exact .plain (plain_of (fun _ => rfl) loadSpHl_plain)
  | h_ldHlSpOff e => exact .plain (plain_of (fun _ => rfl) (loadHlSp_plain e))
  | h_addSpOff e => exact .plain (plain_of (fun _ => rfl) (addSp_plain e))
  | h_rlca | h_rrca | h_rla | h_rra => exact .plain (plain_of (fun _ => rfl) (rotA_plain _))
  | h_daa => exact .plain (plain_of (fun _ => rfl) daa_plain)
  | h_cpl => exact .plain (plain_of (fun _ => rfl) cpl_plain)
  | h_scf => exact .plain (plain_of (fun _ => rfl) scf_plain)
  | h_ccf => exact .plain (plain_of (fun _ => rfl) ccf_plain)
  | h_incAtHl => exact .plain (plain_of (fun _ => rfl) incAtHl_plain)
  | h_decAtHl => exact .plain (plain_of (fun _ => rfl) decAtHl_plain)
  | h_jrOff e => exact .plain (plain_of (fun _ => rfl) (jumpRel_plain e))
  | h_jpNn nn => exact .plain (plain_of (fun _ => rfl) (jump_plain nn))
  | h_jpHl => exact .plain (plain_of (fun _ => rfl) jumpHl_plain)
  | h_callNn nn => exact .plain (plain_of (fun _ => rfl) (call_plain nn))
  | h_ret => exact .plain (plain_of (fun _ => rfl) (fun s => (State.Plain.refl s).returnPc))
  | h_prefixCb => exact .plain (plain_of (fun _ => rfl) runPrefixed_plain)
  | h_di => exact .di
  | h_ei => exact .ei
  | h_reti => exact .reti
  | h_halt => exact .halt
  | h_stop => exact .stop
  | h_illegalD3 => exact .illegal (op := 0xD3#8) (by decide) rfl (fun _ => rfl)
  | h_illegalDB => exact .illegal (op := 0xDB#8) (by decide) rfl (fun _ => rfl)
  | h_illegalDD => exact .illegal (op := 0xDD#8) (by decide) rfl (fun _ => rfl)
  | h_illegalE3 => exact .illegal (op := 0xE3#8) (by decide) rfl (fun _ => rfl)
  | h_illegalE4 => exact .illegal (op := 0xE4#8) (by decide) rfl (fun _ => rfl)
  | h_illegalEB => exact .illegal (op := 0xEB#8) (by decide) rfl (fun _ => rfl)
  | h_illegalEC => exact .illegal (op := 0xEC#8) (by decide) rfl (fun _ => rfl)
  | h_illegalED => exact .illegal (op := 0xED#8) (by decide) rfl (fun _ => rfl)
  | h_illegalF4 => exact .illegal (op := 0xF4#8) (by decide) rfl (fun _ => rfl)
  | h_illegalFC => exact .illegal (op := 0xFC#8) (by decide) rfl (fun _ => rfl)
  | h_illegalFD => exact .illegal (op := 0xFD#8) (by decide) rfl (fun _ => rfl)

/-- A plain instruction's outcome. -/
theorem Instr.Plain.exec {i : Instr} {s t : State} (h : Instr.Plain i) (he : exec i s = .next t) :
    s.Plain t := by
  obtain ⟨u, hu, hp⟩ := h s
  obtain rfl := Host.Outcome.next.inj (hu.symm.trans he)
  exact hp

/-! RETI, HALT and STOP. -/

theorem returnEnable_cpu (s : State) :
    (returnEnable s).cpu = { s.returnPc.cpu with ime := true } := rfl

/-- HALT sets HALTED, sets HALT_BUG or does nothing (rule R602). -/
theorem halt_cpu_cases (s : State) :
    halt s = s.onCpu (fun c => { c with halted := true }) ∨ halt s = s ∨
      halt s = s.onCpu (fun c => { c with haltBug := true }) := by
  unfold halt
  split
  · exact .inl rfl
  · split
    · exact .inr (.inl rfl)
    · exact .inr (.inr rfl)

theorem stop_cpu (s : State) :
    (stop s).cpu = { s.cpu.nextPc with
      stopped := s.cpu.stopped || decide (s.irq.pending = 0#5) } := by
  unfold stop State.stopDiv
  dsimp only
  split <;> rfl

/-- Settles O36: a plain instruction keeps every control bit, and each of the others writes its own. -/
theorem controlBitWriters : Obligations.ControlBitWriters := by
  unfold Obligations.ControlBitWriters
  intro i s t he
  cases Instr.role i with
  | plain h =>
    have hc := (h.exec he).cpu.control
    exact ⟨fun _ _ => hc.ime, fun _ _ => hc.imePending, fun _ => ⟨hc.halted, hc.haltBug⟩,
      fun _ => hc.stopped, fun _ => ⟨hc.locked, hc.illegalByte⟩, hc.opcodeAddr⟩
  | di =>
    obtain rfl : disableInterrupts s = t := Host.Outcome.next.inj he
    exact ⟨fun h => absurd rfl h, fun h => absurd rfl h, fun _ => ⟨rfl, rfl⟩, fun _ => rfl,
      fun _ => ⟨rfl, rfl⟩, rfl⟩
  | ei =>
    obtain rfl : enableInterrupts s = t := Host.Outcome.next.inj he
    exact ⟨fun _ _ => rfl, fun _ h => absurd rfl h, fun _ => ⟨rfl, rfl⟩, fun _ => rfl,
      fun _ => ⟨rfl, rfl⟩, rfl⟩
  | reti =>
    obtain rfl : returnEnable s = t := Host.Outcome.next.inj he
    have hc := (State.Plain.refl s).returnPc.cpu.control
    rw [returnEnable_cpu]
    generalize s.returnPc.cpu = c at hc ⊢
    exact ⟨fun _ h => absurd rfl h, fun _ _ => hc.imePending, fun _ => ⟨hc.halted, hc.haltBug⟩,
      fun _ => hc.stopped, fun _ => ⟨hc.locked, hc.illegalByte⟩, hc.opcodeAddr⟩
  | halt =>
    obtain rfl : halt s = t := Host.Outcome.next.inj he
    rcases halt_cpu_cases s with h | h | h <;> rw [h] <;>
      exact ⟨fun _ _ => rfl, fun _ _ => rfl, fun h => absurd rfl h, fun _ => rfl,
        fun _ => ⟨rfl, rfl⟩, rfl⟩
  | stop =>
    obtain rfl : stop s = t := Host.Outcome.next.inj he
    rw [stop_cpu]
    exact ⟨fun _ _ => rfl, fun _ _ => rfl, fun _ => ⟨rfl, rfl⟩, fun h => absurd rfl h,
      fun _ => ⟨rfl, rfl⟩, rfl⟩
  | illegal hop hi hx =>
    obtain rfl := Host.Outcome.next.inj ((hx s).symm.trans he)
    exact ⟨fun _ _ => rfl, fun _ _ => rfl, fun _ => ⟨rfl, rfl⟩, fun _ => rfl,
      fun h => absurd (hi.symm.trans h) Bool.false_ne_true, rfl⟩

end Sys2Proof.Machine
end

section
/-! PROOF. The invariant (rules R105, R106, R124, R125, R127, R730): it holds at reset, and the host's
inputs, the fetch, every instruction, the idle M-cycle and the interrupt check keep it. -/

namespace Sys2Proof.Machine

/-! Reset. -/

theorem Cpu.Inv.reset (fast : Bool) : (Cpu.reset fast).Inv := by
  cases fast <;> exact ⟨by decide, fun h => by cases h⟩

theorem Dma.Inv.reset (fast : Bool) : (Dma.reset fast).Inv :=
  ⟨Nat.zero_le _, (fun h => by cases h), rfl, rfl⟩

theorem Serial.Inv.reset (input : Byte) (out : List Byte) : (Serial.reset input out).Inv :=
  ⟨Nat.zero_le _, fun h => absurd rfl h⟩

/-- The host's reset, of a state with memory and parameters in their form. -/
theorem State.Inv.resetFrom {s : State} (fast : Bool) (ram : List Host.Cell) (hm : Memory.Inv s.mem)
    (hp : Params.Valid s.params) : (s.resetFrom fast ram).Inv where
  cpu := Cpu.Inv.reset fast
  mem := hm.reset ram
  ppu := Ppu.Inv.reset fast hp
  dma := Dma.Inv.reset fast
  serial := Serial.Inv.reset _ _
  reload := Nat.zero_le _
  params := hp.draw ram

theorem Params.Valid.default : Params.Valid Params.default :=
  ⟨Nat.zero_le _, Nat.zero_le _, by decide, by decide⟩

theorem State.Inv.resetAt (fast : Bool) : (State.resetAt fast).Inv where
  cpu := Cpu.Inv.reset fast
  mem := ⟨rfl, rfl⟩
  ppu := Ppu.Inv.reset fast .default
  dma := Dma.Inv.reset fast
  serial := Serial.Inv.reset _ _
  reload := Nat.zero_le _
  params := .default

/-- Settles O57: each unit's reset value meets its part of the invariant. -/
theorem invariantAtReset : Obligations.InvariantAtReset :=
  ⟨State.Inv.resetAt true, fun fast ram _ hm hp => State.Inv.resetFrom fast ram hm hp⟩

/-! The host's inputs. -/

theorem State.Inv.apply {s : State} (x : HostInput) (h : s.Inv) : (x.apply s).Inv := by
  cases x with
  | none => exact h
  | buttons mask => exact ⟨h.cpu, h.mem, h.ppu, h.dma, h.serial, h.reload, h.params⟩
  | serialIn v =>
    exact ⟨h.cpu, h.mem, h.ppu, h.dma, ⟨h.serial.countdown, h.serial.running⟩, h.reload, h.params⟩
  | hostTime now => exact ⟨h.cpu, h.mem, h.ppu, h.dma, h.serial, h.reload, h.params⟩
  | reset fast ram => exact .resetFrom fast ram h.mem h.params

theorem State.Inv.takeInput {s : State} (h : s.Inv) : s.takeInput.Inv := by
  unfold State.takeInput
  split
  · exact h
  · exact State.Inv.apply _ ⟨h.cpu, h.mem, h.ppu, h.dma, h.serial, h.reload, h.params⟩

/-! A CPU that is not LOCKED. -/

/-- The invariant with the CPU not LOCKED: what holds while an instruction runs. -/
structure State.Running (s : State) : Prop where
  settled : s.Settled
  low : s.cpu.f &&& 0x0F#8 = 0x00#8
  unlocked : s.cpu.locked = false

theorem State.Inv.running {s : State} (h : s.Inv) (hl : s.cpu.locked = false) : s.Running :=
  ⟨h.settled, h.cpu.low, hl⟩

theorem State.Running.inv {s : State} (h : s.Running) : s.Inv :=
  .of_settled h.settled ⟨h.low, fun hl => absurd (h.unlocked.symm.trans hl) Bool.false_ne_true⟩

theorem State.Running.plain {s t : State} (h : s.Running) (hp : s.Plain t) : t.Running :=
  ⟨hp.settled h.settled, hp.cpu.low h.low, hp.cpu.control.locked.trans h.unlocked⟩

/-- An update of the CPU that writes neither F nor LOCKED. -/
theorem State.Running.onCpu {s : State} (h : s.Running) {f : Cpu → Cpu}
    (hf : ∀ c, (f c).f = c.f) (hl : ∀ c, (f c).locked = c.locked) : (s.onCpu f).Running :=
  ⟨h.settled.onCpu f, (congrArg (· &&& 0x0F#8) (hf s.cpu)).trans h.low, (hl s.cpu).trans h.unlocked⟩

/-! The fetch. -/

theorem State.Running.fetchOpcode {s : State} (h : s.Running) : s.fetchOpcode.2.Running :=
  (h.plain ((State.Plain.refl s).memRead s.cpu.pc)).onCpu (fun _ => rfl) (fun _ => rfl)

theorem State.fetchOperands_plain (n : Nat) (s : State) : s.Plain (s.fetchOperands n).2 := by
  unfold State.fetchOperands
  split
  · exact .refl s
  · exact (State.Plain.refl s).fetch8
  · exact (State.Plain.refl s).fetch8.fetch8

theorem State.Running.fetch {s : State} (h : s.Running) : s.fetch.2.Running :=
  h.fetchOpcode.plain (State.fetchOperands_plain _ _)

/-! The instructions. -/

theorem State.Running.disableInterrupts {s : State} (h : s.Running) :
    (disableInterrupts s).Running := h.onCpu (fun _ => rfl) (fun _ => rfl)

theorem State.Running.enableInterrupts {s : State} (h : s.Running) :
    (enableInterrupts s).Running := h.onCpu (fun _ => rfl) (fun _ => rfl)

theorem State.Running.returnEnable {s : State} (h : s.Running) : (returnEnable s).Running :=
  (h.plain (State.Plain.refl s).returnPc).onCpu (fun _ => rfl) (fun _ => rfl)

theorem State.Running.halt {s : State} (h : s.Running) : (halt s).Running := by
  rcases halt_cpu_cases s with e | e | e <;> rw [e]
  · exact h.onCpu (fun _ => rfl) (fun _ => rfl)
  · exact h
  · exact h.onCpu (fun _ => rfl) (fun _ => rfl)

theorem State.Running.stopDiv {s : State} (h : s.Running) : s.stopDiv.Running := by
  obtain ⟨⟨u, d⟩, hf, hl⟩ := h
  unfold State.stopDiv
  split
  · exact ⟨⟨u.withTimer (Timer.edgeCheck_reload u.reload), d⟩, hf, hl⟩
  · exact ⟨⟨u, d⟩, hf, hl⟩

theorem State.Running.stop {s : State} (h : s.Running) : (stop s).Running :=
  (h.onCpu (f := fun c => { c.nextPc with
    stopped := c.stopped || decide (s.irq.pending = 0#5) }) (fun _ => rfl) (fun _ => rfl)).stopDiv

/-- An illegal opcode leaves the CPU LOCKED at its byte (rule R606). -/
theorem State.Running.raiseIllegal {s : State} (h : s.Running) {op : Byte}
    (hop : op ∈ illegalBytes) : (s.raiseIllegal op).Inv :=
  .of_settled (h.settled.onCpu _) ⟨h.low, fun _ => ⟨rfl, hop⟩⟩

/-- Every instruction keeps the invariant, by its role. -/
theorem State.Running.exec {i : Instr} {s t : State} (h : s.Running) (he : exec i s = .next t) :
    t.Inv := by
  cases Instr.role i with
  | plain hi => exact (h.plain (hi.exec he)).inv
  | di =>
    obtain rfl : Machine.disableInterrupts s = t := Host.Outcome.next.inj he
    exact h.disableInterrupts.inv
  | ei =>
    obtain rfl : Machine.enableInterrupts s = t := Host.Outcome.next.inj he
    exact h.enableInterrupts.inv
  | reti =>
    obtain rfl : Machine.returnEnable s = t := Host.Outcome.next.inj he
    exact h.returnEnable.inv
  | halt =>
    obtain rfl : Machine.halt s = t := Host.Outcome.next.inj he
    exact h.halt.inv
  | stop =>
    obtain rfl : Machine.stop s = t := Host.Outcome.next.inj he
    exact h.stop.inv
  | illegal hop _ hx =>
    obtain rfl := Host.Outcome.next.inj ((hx s).symm.trans he)
    exact h.raiseIllegal hop

/-! The interrupts. -/

theorem State.Running.acknowledge {s : State} (i : Nat) (h : s.Running) :
    (s.acknowledge i).Running := by
  obtain ⟨⟨u, d⟩, hf, hl⟩ := h
  exact ⟨⟨⟨u.mem, u.ppu, u.idx, u.page, u.serial, u.reload, u.params⟩, d⟩, hf, hl⟩

theorem State.Running.dispatch {s : State} (h : s.Running) : s.dispatch.Running := by
  have ha := h.acknowledge s.irq.lowest
  unfold State.dispatch
  dsimp only
  generalize s.acknowledge s.irq.lowest = u at ha ⊢
  have hp := ((State.Plain.refl u).internal.internal.pushWord u.internal.internal.cpu.pc).internal
  exact (ha.plain hp).onCpu (fun _ => rfl) (fun _ => rfl)

theorem State.Inv.interruptCheck {s : State} (h : s.Inv) : s.interruptCheck.Inv := by
  unfold State.interruptCheck
  split
  · rename_i hc
    simp only [Bool.and_eq_true, Bool.not_eq_true'] at hc
    exact (h.running hc.1.1).dispatch.inv
  · exact h

theorem State.Running.wake {s : State} (h : s.Running) :
    (s.onCpu (fun c => { c with halted := false, stopped := false })).Running :=
  h.onCpu (fun _ => rfl) (fun _ => rfl)

theorem State.Running.idle {s : State} (h : s.Running) : s.idle.Inv := by
  have hm : s.mCycle.Running := h.plain (State.Plain.refl s).internal
  unfold State.idle
  dsimp only
  split
  · exact hm.inv
  · exact hm.wake.inv.interruptCheck

/-! The step. -/

theorem State.Running.runInstruction {s t : State} (h : s.Running)
    (hr : s.runInstruction = .next t) : t.Inv := by
  unfold State.runInstruction at hr
  dsimp only at hr
  split at hr
  · rename_i u hu
    obtain rfl := Host.Outcome.next.inj hr
    exact (h.fetch.exec hu).interruptCheck
  · cases hr
  · cases hr

/-- Settles O58: a LOCKED CPU takes no step, and from any other the idle M-cycle or the fetch, the
instruction and the interrupt check each keep the invariant. -/
theorem invariantKept : Obligations.InvariantKept := by
  unfold Obligations.InvariantKept
  intro s t h hstep
  have hi := h.takeInput
  unfold step State.runCpu at hstep
  split at hstep
  · cases hstep
  · rename_i hl
    have hrun := hi.running (by simpa using hl)
    split at hstep
    · obtain rfl := Host.Outcome.next.inj hstep
      exact hrun.idle
    · exact hrun.runInstruction hstep

end Sys2Proof.Machine
end

section
/-! PROOF. The fetch of an instruction whose bytes stand in WRAM (rules R103, R253, R300, R320). -/

namespace Sys2Proof.Machine

/-! Reads of WRAM. -/

theorem State.mCycles_frame (n : Nat) (s : State) : Frame s (State.mCycles n s) :=
  State.mCycles_induction n (Frame.refl s) (fun u h => h.trans (State.mCycle_frame u))

theorem State.memRead_wram {a : Word} {s : State} (hq : s.quiet = true) (h1 : 0xC000 ≤ a.toNat)
    (h2 : a.toNat < 0xE000) : s.memRead a = (s.byteAt a.toNat, s.mCycle) := by
  unfold State.memRead
  rw [State.busRead_wram (State.active_of_quiet hq) h1 h2]

/-! The CPU and the state past some bytes of an instruction. -/

/-- The CPU once `n` bytes of an instruction at PC are fetched. -/
def Cpu.past (n : Nat) (c : Cpu) : Cpu :=
  { c with
    pc := c.pc + BitVec.ofNat 16 n, opcodeAddr := c.pc
    ime := c.ime || c.imePending, imePending := false }

/-- The state once `n` bytes are fetched, in an M-cycle each. -/
def State.past (n : Nat) (s : State) : State :=
  (State.mCycles n s).onCpu (fun _ => s.cpu.past n)

theorem Cpu.nextPc_past (n : Nat) (c : Cpu) : (c.past n).nextPc = c.past (n + 1) := by
  have h : c.pc + BitVec.ofNat 16 n + 1#16 = c.pc + BitVec.ofNat 16 (n + 1) := by
    rw [BitVec.add_assoc, BitVec.ofNat_add]
  simp only [Cpu.nextPc, Cpu.past, h]

theorem Cpu.afterOpcode_eq_past {c : Cpu} (h : c.haltBug = false) : c.afterOpcode = c.past 1 := by
  simp [Cpu.afterOpcode, Cpu.past, h]

theorem State.fetchOpcode_wram {s : State} (hb : s.cpu.haltBug = false) (hq : s.quiet = true)
    (h1 : 0xC000 ≤ s.cpu.pc.toNat) (h2 : s.cpu.pc.toNat < 0xE000) :
    s.fetchOpcode = (s.byteAt s.cpu.pc.toNat, s.past 1) := by
  unfold State.fetchOpcode
  rw [State.memRead_wram hq h1 h2]
  simp [State.past, State.mCycles, State.onCpu, Cpu.afterOpcode_eq_past hb]

/-- The next byte fetched is the next byte of WRAM (rule R10). -/
theorem State.fetch8_past {n : Nat} {s : State} (hq : s.quiet = true)
    (h1 : 0xC000 ≤ s.cpu.pc.toNat) (h2 : s.cpu.pc.toNat + n < 0xE000) :
    (s.past n).fetch8 = (s.byteAt (s.cpu.pc.toNat + n), s.past (n + 1)) := by
  have hf : Frame s (s.past n) := (State.mCycles_frame n s).onCpu _
  have hpc : (s.past n).cpu.pc.toNat = s.cpu.pc.toNat + n := by
    simp only [State.past, State.onCpu_cpu, Cpu.past, BitVec.toNat_add, BitVec.toNat_ofNat]
    omega
  have hread := State.memRead_wram (hf.quiet hq) (a := (s.past n).cpu.pc) (by omega) (by omega)
  have hnext : (s.past n).mCycle.onCpu Cpu.nextPc = s.past (n + 1) := by
    unfold State.past
    rw [State.mCycle_onCpu, State.mCycles_succ, State.onCpu_onCpu]
    simp only [Cpu.nextPc_past]
  unfold State.fetch8
  rw [hread, hpc, hf.bytes _ (.inr hq)]
  exact congrArg _ hnext

/-- The operand bytes after an opcode in WRAM, 00 standing for those it has not (rule R300). -/
theorem State.fetchOperands_past {n : Nat} {s : State} (hn : n = 0 ∨ n = 1 ∨ n = 2)
    (hq : s.quiet = true) (h1 : 0xC000 ≤ s.cpu.pc.toNat) (h2 : s.cpu.pc.toNat + 2 < 0xE000) :
    (s.past 1).fetchOperands n =
      ((if n = 0 then 0x00#8 else s.byteAt (s.cpu.pc.toNat + 1),
        if n = 2 then s.byteAt (s.cpu.pc.toNat + 2) else 0x00#8), s.past (1 + n)) := by
  have e1 : (s.past 1).fetch8 = _ := State.fetch8_past hq h1 (by omega)
  have e2 : (s.past 2).fetch8 = _ := State.fetch8_past hq h1 h2
  rcases hn with rfl | rfl | rfl <;> simp [State.fetchOperands, e1, e2]

/-- Three bytes in WRAM at PC: the fetch gives the instruction they decode to. -/
theorem State.fetch_wram {s : State} {i : Instr} {rest : List Byte} (hb : s.cpu.haltBug = false)
    (hq : s.quiet = true) (h1 : 0xC000 ≤ s.cpu.pc.toNat) (h2 : s.cpu.pc.toNat + 2 < 0xE000)
    (hd : decode [s.byteAt s.cpu.pc.toNat, s.byteAt (s.cpu.pc.toNat + 1),
      s.byteAt (s.cpu.pc.toNat + 2)] = .ok i rest) :
    s.fetch = (i, s.past i.fetches) := by
  unfold State.fetch
  rw [State.fetchOpcode_wram hb hq h1 (by omega)]
  dsimp only
  rw [State.fetchOperands_past (operandBytes_cases _) hq h1 h2, decode_three hd, fetches_decodeOp]

/-- A running CPU with no host input runs what its fetch gives (rules R320, R710). -/
theorem step_of_running {s : State} (hin : s.hostInputs = []) (hh : s.cpu.halted = false)
    (hs : s.cpu.stopped = false) (hl : s.cpu.locked = false) : step s = s.runInstruction := by
  unfold step
  rw [State.takeInput_of_none hin]
  simp [State.runCpu, hh, hs, hl]

/-- What a step makes of an instruction that answers a next state. -/
theorem State.runInstruction_of_exec {s t u : State} {i : Instr} (hf : s.fetch = (i, u))
    (he : exec i u = .next t) : s.runInstruction = .next t.interruptCheck := by
  unfold State.runInstruction
  rw [hf]
  dsimp only
  rw [he]

/-- Settles O34: each fetch reads the byte of WRAM at PC, which the M-cycles before it leave as it was. -/
theorem stepRunsMemory : Obligations.StepRunsMemory := by
  unfold Obligations.StepRunsMemory
  intro s i rest hin hh hs hl hb hq h1 h2 hd _ t he
  rw [step_of_running hin hh hs hl]
  exact State.runInstruction_of_exec (State.fetch_wram hb hq h1 h2 hd) he

end Sys2Proof.Machine
end

section
/-! PROOF. The I/O page: what its registers read as, and what a CPU write of each changes (rules R110,
R111, R121, R126, R203, R230, R823, R862, R870 to R873). -/

namespace Sys2Proof.Machine

/-! The registers in terms of their bits. -/

/-- P1[3:0] from its select bits and the keys (rule R870). -/
theorem Joypad.lines_eq (j : Joypad) :
    j.lines = (if j.select.getLsbD 1 then 0xF#4 else ~~~(j.input.setWidth 4)) &&&
      (if j.select.getLsbD 0 then 0xF#4 else ~~~((j.input >>> 4).setWidth 4)) := by
  have h0 : j.input.extractLsb' 0 4 = j.input.setWidth 4 := by ext i hi; simp
  have h4 : j.input.extractLsb' 4 4 = (j.input >>> 4).setWidth 4 := by ext i hi; simp
  unfold Joypad.lines
  rw [h0, h4]

/-- Whether a bit of P1[3:0] falls (rule R870). -/
theorem fallen_eq_any : ∀ x y : BitVec 4, decide (x &&& ~~~y ≠ 0#4) =
    [0, 1, 2, 3].any (fun i => x.getLsbD i && !y.getLsbD i) := by
  decide +kernel

theorem Interrupts.reads_eq : ∀ r : BitVec 5, Interrupts.reads r = 7#3 ++ r := by
  decide +kernel

theorem readTac_bits : ∀ r : BitVec 3, 0xF8#8 ||| r.setWidth 8 = 0x1F#5 ++ r := by
  decide +kernel

theorem Timer.div_eq (t : Timer) : t.div = (t.counter >>> 8).setWidth 8 := by
  unfold Timer.div Word.hi
  ext i hi; simp

/-- LY as it is reported (rule R802). -/
theorem Ppu.ly_eq (p : Ppu) :
    p.ly = if p.lcdc.getLsbD 7 = false ∨ p.line = 153 ∧ p.dot = 455 then 0 else p.line := by
  unfold Ppu.ly Ppu.lcdOn
  cases p.lcdc.getLsbD 7 <;> simp

/-! Reads. -/

/-- The addresses of the I/O page that are neither the APU's nor a register's (rule R873). -/
theorem ioReg_unmapped {a : Word} (h1 : 0xFF00 ≤ a.toNat) (h2 : a.toNat < 0xFF80)
    (hn : ¬(0xFF10 ≤ a.toNat ∧ a.toNat < 0xFF40)) (ha : a ∉ ioRegisters) :
    ioReg a.toNat = .unmapped := by
  have hk : ∀ k : Fin 128, ¬(0xFF10 ≤ 0xFF00 + k.val ∧ 0xFF00 + k.val < 0xFF40) →
      BitVec.ofNat 16 (0xFF00 + k.val) ∉ ioRegisters → ioReg (0xFF00 + k.val) = .unmapped := by
    decide +kernel
  obtain ⟨k, hk'⟩ := Nat.exists_eq_add_of_le h1
  have h := hk ⟨k, by omega⟩
  dsimp only at h
  rw [← hk', BitVec.ofNat_toNat, BitVec.setWidth_eq] at h
  exact h hn ha

theorem State.busRead_reg {a : Word} {v : Byte} {s : State} (hd : s.dma.active = false)
    (ha : 0xFF00 ≤ a.toNat ∧ a.toNat < 0xFF80) (hv : s.ioRead a.toNat = v) :
    s.busRead a = (v, s) := by
  rw [State.busRead_io hd ha.1 ha.2, hv]

theorem State.ioRead_p1 (s : State) :
    s.ioRead 0xFF00 = 3#2 ++ s.joypad.select ++
      ((if s.joypad.select.getLsbD 1 then 0xF#4 else ~~~(s.joypad.input.setWidth 4)) &&&
        (if s.joypad.select.getLsbD 0 then 0xF#4 else ~~~((s.joypad.input >>> 4).setWidth 4))) :=
  congrArg (3#2 ++ s.joypad.select ++ ·) s.joypad.lines_eq

theorem State.ioRead_stat (s : State) :
    s.ioRead 0xFF41 = 1#1 ++ s.ppu.statSel ++
      BitVec.ofBool (decide ((if s.ppu.lcdc.getLsbD 7 = false ∨ s.ppu.line = 153 ∧ s.ppu.dot = 455
        then 0 else s.ppu.line) = s.ppu.lyc.toNat)) ++ Mode.number s.ppu.mode := by
  rw [← s.ppu.ly_eq]
  rfl

theorem State.ioRead_ly (s : State) :
    s.ioRead 0xFF44 = BitVec.ofNat 8
      (if s.ppu.lcdc.getLsbD 7 = false ∨ s.ppu.line = 153 ∧ s.ppu.dot = 455 then 0
        else s.ppu.line) := by
  rw [← s.ppu.ly_eq]
  rfl

/-- Settles O42: a read of the I/O page gives the register that owns the address, each in the spec's
terms. -/
theorem ioReadMap : Obligations.IoReadMap := by
  unfold Obligations.IoReadMap
  intro s hd
  refine ⟨?_, fun a h1 h2 => ?_, fun a h1 h2 hn ha => ?_⟩
  · simp only [List.forall_mem_cons]
    have reg {a : Word} {v : Byte} := State.busRead_reg (a := a) (v := v) hd
    exact ⟨reg (by decide) s.ioRead_p1, reg (by decide) rfl, reg (by decide) rfl,
      reg (by decide) s.timer.div_eq, reg (by decide) rfl, reg (by decide) rfl,
      reg (by decide) (readTac_bits s.timer.tac), reg (by decide) (Interrupts.reads_eq s.irq.ifr),
      reg (by decide) rfl,
      reg (by decide) (s.ioRead_stat.trans (by cases s.ppu.mode <;> rfl)),
      reg (by decide) rfl, reg (by decide) rfl, reg (by decide) s.ioRead_ly,
      reg (by decide) rfl, reg (by decide) rfl, reg (by decide) rfl, reg (by decide) rfl,
      reg (by decide) rfl, reg (by decide) rfl, reg (by decide) rfl, reg (by decide) rfl,
      fun x hx => absurd hx List.not_mem_nil⟩
  · refine State.busRead_reg hd (by omega) ?_
    unfold State.ioRead
    rw [ioReg_apu h1 h2]
  · refine State.busRead_reg hd ⟨h1, h2⟩ ?_
    unfold State.ioRead
    rw [ioReg_unmapped h1 h2 hn ha]

/-! Writes. -/

theorem State.busWrite_reg {a : Word} {v : Byte} {s t : State} (hd : s.dma.active = false)
    (ha : 0xFF00 ≤ a.toNat ∧ a.toNat < 0xFF80) (ht : s.ioWrite a.toNat v = t) :
    s.busWrite a v = t := by
  rw [State.busWrite_io hd ha.1 ha.2, ht]

/-- A write of IE keeps five bits (rule R111). -/
theorem State.busWrite_ie {v : Byte} {s : State} (hd : s.dma.active = false) :
    s.busWrite 0xFFFF#16 v = { s with irq := { s.irq with ie := v.setWidth 5 } } :=
  State.busWrite_none (State.dmaBlocks_idle _ hd)
    (State.storeKey_free (State.dmaBlocks_idle _ hd) (t := .ie) rfl) (t := .ie) rfl

/-- A write of an address of the I/O page with no owner does nothing (rule R873). -/
theorem State.busWrite_unmapped {a : Word} {v : Byte} {s : State} (hd : s.dma.active = false)
    (ha : 0xFF00 ≤ a.toNat ∧ a.toNat < 0xFF80) (hr : ioReg a.toNat = .unmapped) :
    s.busWrite a v = s := by
  refine State.busWrite_reg hd ha ?_
  unfold State.ioWrite
  rw [hr]

/-- A write of the APU's addresses does nothing (rule R872). -/
theorem State.busWrite_apu {a : Word} {v : Byte} {s : State} (hd : s.dma.active = false)
    (h1 : 0xFF10 ≤ a.toNat) (h2 : a.toNat < 0xFF40) : s.busWrite a v = s := by
  refine State.busWrite_reg hd (by omega) ?_
  unfold State.ioWrite
  rw [ioReg_apu h1 h2]

theorem Interrupts.request_eq (i : Nat) (e : Bool) (q : Interrupts) :
    q.request i e = { q with ifr := if e then q.ifr ||| (1#5 <<< i) else q.ifr } := by
  cases e <;> rfl

/-- A write of P1: two select bits, P1[3:0] as it then reads, and a request when a bit of it falls
(rule R870). -/
theorem State.setJoypad_writeP1 (v : Byte) (s : State) {low : BitVec 4}
    (hl : low = (if v.getLsbD 5 then 0xF#4 else ~~~(s.joypad.input.setWidth 4)) &&&
      (if v.getLsbD 4 then 0xF#4 else ~~~((s.joypad.input >>> 4).setWidth 4))) :
    s.setJoypad (s.joypad.writeP1 v) = { s with
      joypad := { s.joypad with select := (v >>> 4).setWidth 2, low := low }
      irq := s.irq.request srcJoypad
        ([0, 1, 2, 3].any (fun i => s.joypad.low.getLsbD i && !low.getLsbD i)) } := by
  have hsel : v.extractLsb' 4 2 = (v >>> 4).setWidth 2 := by ext i hi; simp
  have hlines : Joypad.lines { s.joypad with select := (v >>> 4).setWidth 2 } = low := by
    rw [Joypad.lines_eq, hl]
    simp
  unfold State.setJoypad Joypad.writeP1 Joypad.evaluate
  dsimp only
  rw [hsel, hlines, fallen_eq_any]

/-- The STAT line's level where a PPU stands, for given selects and a given LYC, in the terms of rule
R823. -/
def Ppu.levelFor (sel : BitVec 4) (lyc : Byte) (p : Ppu) : Bool :=
  p.lcdc.getLsbD 7 &&
    (sel.getLsbD 3 && decide ((if p.lcdc.getLsbD 7 = false ∨ p.line = 153 ∧ p.dot = 455 then 0
        else p.line) = lyc.toNat)
      || sel.getLsbD 2 && decide (p.mode = .oamScan)
      || sel.getLsbD 1 && decide (p.mode = .vblank)
      || sel.getLsbD 0 && decide (p.mode = .hblank))

/-- The level of a PPU at the same place, its own selects and LYC given. -/
theorem Ppu.statLevel_eq {p q : Ppu} (hon : q.lcdc.getLsbD 7 = p.lcdc.getLsbD 7)
    (hline : q.line = p.line) (hdot : q.dot = p.dot) (hmode : q.mode = p.mode) :
    q.statLevel = p.levelFor q.statSel q.lyc := by
  unfold Ppu.statLevel Ppu.coincidence Ppu.lcdOn Ppu.levelFor
  rw [q.ly_eq, hon, hline, hdot, hmode]

/-- The STAT line evaluated: its level, and a request when it rises (rule R823). -/
theorem State.setPpu_updateStat {p : Ppu} {s : State} {level : Bool} (hl : p.statLevel = level)
    (hs : p.statline = s.ppu.statline) :
    s.setPpu p.updateStat = { s with
      ppu := { p with statline := level }
      irq := s.irq.request srcStat (!s.ppu.statline && level) } := by
  subst hl
  unfold State.setPpu Ppu.updateStat
  rw [hs]

theorem State.ioWrite_stat (v : Byte) (s : State) {sel : BitVec 4} (hsel : sel = (v >>> 3).setWidth 4) :
    s.ioWrite 0xFF41 v = { s with
      ppu := { s.ppu with statSel := sel, statline := s.ppu.levelFor sel s.ppu.lyc }
      irq := s.irq.request srcStat (!s.ppu.statline && s.ppu.levelFor sel s.ppu.lyc) } := by
  have hv : v.extractLsb' 3 4 = sel := by rw [hsel]; ext i hi; simp
  subst hv
  exact State.setPpu_updateStat (p := { s.ppu with statSel := v.extractLsb' 3 4 })
    (Ppu.statLevel_eq rfl rfl rfl rfl) rfl

theorem State.ioWrite_lyc (v : Byte) (s : State) :
    s.ioWrite 0xFF45 v = { s with
      ppu := { s.ppu with lyc := v, statline := s.ppu.levelFor s.ppu.statSel v }
      irq := s.irq.request srcStat (!s.ppu.statline && s.ppu.levelFor s.ppu.statSel v) } :=
  State.setPpu_updateStat (p := { s.ppu with lyc := v }) (Ppu.statLevel_eq rfl rfl rfl rfl) rfl

/-- A write of LCDC that keeps bit 7 neither turns the LCD off nor on (rules R860, R861). -/
theorem Ppu.writeLcdc_same {p : Ppu} {v : Byte} (mem : Memory)
    (h : v.getLsbD 7 = p.lcdc.getLsbD 7) :
    p.writeLcdc mem v = Ppu.updateStat { p with lcdc := v } := by
  unfold Ppu.writeLcdc Ppu.lcdOn
  rw [h]
  cases p.lcdc.getLsbD 7 <;> rfl

/-- A write of LCDC that keeps bit 7 evaluates the STAT line (rule R823). -/
theorem State.ioWrite_lcdc {v : Byte} {s : State} (h : v.getLsbD 7 = s.ppu.lcdc.getLsbD 7) :
    s.ioWrite 0xFF40 v = { s with
      ppu := { s.ppu with lcdc := v, statline := s.ppu.levelFor s.ppu.statSel s.ppu.lyc }
      irq := s.irq.request srcStat
        (!s.ppu.statline && s.ppu.levelFor s.ppu.statSel s.ppu.lyc) } :=
  (congrArg s.setPpu (Ppu.writeLcdc_same s.mem h)).trans
    (State.setPpu_updateStat (p := { s.ppu with lcdc := v }) (Ppu.statLevel_eq h rfl rfl rfl) rfl)

/-- Settles O45: a write of the I/O page goes to the register that owns the address, and each register's
write is as the spec states it. -/
theorem ioWriteMap : Obligations.IoWriteMap := by
  unfold Obligations.IoWriteMap
  intro v s hd table requested low ly level rises sel
  have reg {a : Word} {t : State} := State.busWrite_reg (a := a) (t := t) (v := v) hd
  have hlevel (sel : BitVec 4) (lyc : Byte) : level sel lyc = s.ppu.levelFor sel lyc := rfl
  have hrises (l : Bool) : rises l = s.irq.request srcStat (!s.ppu.statline && l) :=
    (Interrupts.request_eq srcStat _ s.irq).symm
  refine ⟨?_, ?_, ?_, ?_, ?_, ?_, fun h => ?_, ?_, ?_, fun a h1 h2 => State.busWrite_apu hd h1 h2,
    fun a h1 h2 hb => ?_, ?_⟩
  · simp only [table, List.forall_mem_cons]
    exact ⟨reg (by decide) rfl, reg (by decide) rfl, reg (by decide) rfl, reg (by decide) rfl,
      reg (by decide) rfl, reg (by decide) rfl, reg (by decide) rfl, reg (by decide) rfl,
      reg (by decide) rfl, reg (by decide) rfl, reg (by decide) rfl, reg (by decide) rfl,
      reg (by decide) rfl, reg (by decide) rfl, State.busWrite_ie hd,
      fun x hx => absurd hx List.not_mem_nil⟩
  · refine reg (by decide) ((State.setJoypad_writeP1 v s (low := low) rfl).trans ?_)
    rw [Interrupts.request_eq]
    rfl
  · rintro ⟨h7, h0⟩
    exact reg (by decide) (congrArg (fun p => { s with serial := p })
      (if_pos (by rw [h7, h0]; rfl)))
  · intro h
    exact reg (by decide) (congrArg (fun p => { s with serial := p })
      (if_neg (by rwa [Bool.and_eq_true])))
  · rw [hrises, hlevel]
    exact reg (by decide) (s.ioWrite_stat v rfl)
  · rw [hrises, hlevel]
    exact reg (by decide) (s.ioWrite_lyc v)
  · rw [hrises, hlevel]
    exact reg (by decide) (State.ioWrite_lcdc h)
  · rw [reg (by decide) rfl]
    exact Ppu.lcdc_of_regs (Ppu.regs_writeLcdc s.mem v s.ppu)
  · rw [reg (by decide) rfl]
    rfl
  · exact State.busWrite_unmapped hd (by omega)
      (ioReg_high h1 h2 (fun e => hb (BitVec.eq_of_toNat_eq e)))
  · have gap {a : Word} := State.busWrite_unmapped (a := a) (v := v) hd
    simp only [List.forall_mem_cons]
    exact ⟨gap (by decide) rfl, gap (by decide) rfl, gap (by decide) rfl, gap (by decide) rfl,
      gap (by decide) rfl, gap (by decide) rfl, gap (by decide) rfl, gap (by decide) rfl,
      fun x hx => absurd hx List.not_mem_nil⟩

end Sys2Proof.Machine
end

section
/-! PROOF. TIMA counts the periods of the clock TAC selects (rules R112, R130, R760, R761, R763). -/

namespace Sys2Proof.Machine

theorem timerPeriod_eq (tac : BitVec 3) : timerPeriod tac = Timer.period tac := by
  unfold timerPeriod Timer.period Timer.selectedBit
  cases tac.getLsbD 1 <;> cases tac.getLsbD 0 <;> rfl

/-! The counter. -/

theorem Timer.after_tac (n : Nat) (t : Timer) : (Timer.after n t).tac = t.tac := by
  induction n with
  | zero => rfl
  | succ n ih => rw [Timer.after_succ, Timer.step_tac, ih]

theorem Timer.after_counter (n : Nat) (t : Timer) :
    (Timer.after n t).counter.toNat = (t.counter.toNat + n) % 65536 := by
  induction n with
  | zero => exact (Nat.mod_eq_of_lt t.counter.isLt).symm
  | succ n ih =>
    rw [Timer.after_succ, Timer.step_counter, BitVec.toNat_add, ih]
    exact Nat.mod_add_mod _ _ _

/-! The timer disabled. -/

/-- A T-cycle of a disabled timer whose detector is in step moves the counter alone. -/
theorem Timer.step_disabled {t : Timer} (hr : t.reload = 0) (hs : t.tsig = false)
    (he : t.tac.getLsbD 2 = false) : t.step.1 = { t with counter := t.counter + 1#16 } := by
  have hsig : ({ t with counter := t.counter + 1#16 } : Timer).signal = false := by
    unfold Timer.signal
    rw [he, Bool.false_and]
  have hstep : t.step.1 = Timer.edgeCheck { t with counter := t.counter + 1#16 } := by
    simp [Timer.step, Timer.reloadStep, hr]
  rw [hstep]
  unfold Timer.edgeCheck
  rw [hsig]
  simp [hs]

theorem Timer.after_disabled (n : Nat) {t : Timer} (hr : t.reload = 0) (hs : t.tsig = false)
    (he : t.tac.getLsbD 2 = false) :
    Timer.after n t = { t with counter := (Timer.after n t).counter } := by
  induction n with
  | zero => rfl
  | succ n ih =>
    rw [Timer.after_succ, ih]
    exact (Timer.step_disabled (t := { t with counter := (Timer.after n t).counter }) hr hs he).trans
      (by rw [Timer.step_counter])

/-! The timer enabled. -/

/-- The multiples of a period passed, one more T-cycle counted. -/
theorem passed_succ (c n p : Nat) :
    (c % p + (n + 1)) / p = (c % p + n) / p + if (c + n + 1) % p = 0 then 1 else 0 := by
  rw [← Nat.add_assoc, Nat.succ_div]
  have : (c % p + n + 1) % p = (c + n + 1) % p := by
    rw [Nat.add_assoc, Nat.mod_add_mod, Nat.add_assoc]
  simp only [Nat.dvd_iff_mod_eq_zero, this]

/-- The next counter value is a multiple of the period when the count from the start is. -/
theorem Timer.after_counter_mod (n : Nat) (t : Timer) :
    ((Timer.after n t).counter.toNat + 1) % Timer.period t.tac =
      (t.counter.toNat + n + 1) % Timer.period t.tac := by
  rw [Timer.after_counter, Nat.add_mod, Nat.mod_mod_of_dvd _ (Timer.period_dvd t.tac),
    ← Nat.add_mod]

theorem Timer.after_enabled (n : Nat) {t : Timer} (hr : t.reload = 0) (hs : t.tsig = t.signal)
    (he : t.tac.getLsbD 2 = true)
    (hle : t.tima.toNat + (t.counter.toNat % Timer.period t.tac + n) / Timer.period t.tac ≤ 255) :
    (Timer.after n t).tima.toNat =
        t.tima.toNat + (t.counter.toNat % Timer.period t.tac + n) / Timer.period t.tac ∧
      (Timer.after n t).reload = 0 ∧ (Timer.after n t).tsig = (Timer.after n t).signal := by
  induction n with
  | zero => exact ⟨by simp [Timer.after, Nat.mod_div_self], hr, hs⟩
  | succ n ih =>
    rw [passed_succ] at hle ⊢
    obtain ⟨hi, hir, his⟩ := ih (by omega)
    obtain ⟨-, hsig, -, hinc, hkeep⟩ := Timer.step_counting hir his
    rw [Timer.after_tac, Timer.after_counter_mod] at hinc hkeep
    rw [Timer.after_succ]
    by_cases hm : (t.counter.toNat + n + 1) % Timer.period t.tac = 0
    · rw [if_pos hm] at hle ⊢
      have hne : (Timer.after n t).tima ≠ 0xFF#8 := by
        intro e
        rw [e] at hi
        have : (0xFF#8).toNat = 255 := rfl
        omega
      obtain ⟨ht, hr'⟩ := hinc he hm hne
      refine ⟨?_, hr', hsig⟩
      rw [ht, BitVec.toNat_add, hi, show (1#8).toNat = 1 from rfl]
      omega
    · rw [if_neg hm]
      obtain ⟨ht, hr'⟩ := hkeep (.inr hm)
      exact ⟨by rw [ht, hi]; rfl, hr', hsig⟩

/-- Settles O46: n M-cycles are 4 n dots of the timer, and each dot that passes a multiple of the period
adds one to TIMA. -/
theorem timerCounts : Obligations.TimerCounts := by
  unfold Obligations.TimerCounts
  intro n s
  dsimp only
  rw [State.mCycles_timer, timerPeriod_eq]
  refine ⟨Timer.after_counter _ _, Timer.after_tac _ _, fun hr hs => ⟨fun he => ?_, fun he hle => ?_⟩⟩
  · refine Timer.after_disabled _ hr ?_ he
    rw [hs, Timer.signal, he, Bool.false_and]
  · obtain ⟨ht, hr', -⟩ := Timer.after_enabled _ hr hs he hle
    exact ⟨ht, hr'⟩

end Sys2Proof.Machine
end

section
/-! PROOF. The OAM DMA (rules R125, R230, R231): the byte it reads, what one M-cycle of it does, and the
whole transfer. -/

namespace Sys2Proof.Machine

/-! The DMA unit in an M-cycle: it copies on the first T-cycle and latches at the end. -/

theorem State.dmaStep_later {t : Nat} (ht : t ≠ 0) (s : State) : s.dmaStep t = s := by
  unfold State.dmaStep
  rw [if_neg (fun h => ht h.2.1)]

@[simp] theorem State.endMCycle_dma (s : State) : s.endMCycle.dma = s.dma.latch := rfl
@[simp] theorem State.endMCycle_cart (s : State) : s.endMCycle.cart = s.cart := rfl
@[simp] theorem State.endMCycle_bootMapped (s : State) : s.endMCycle.bootMapped = s.bootMapped := rfl
@[simp] theorem State.endMCycle_params (s : State) : s.endMCycle.params = s.params := rfl

theorem State.mCycle_dmaMem (s : State) : s.mCycle.mem = (s.dmaStep 0).mem := by
  simp [State.mCycle, State.dmaStep_later]

theorem State.mCycle_dma (s : State) : s.mCycle.dma = (s.dmaStep 0).dma.latch := by
  simp [State.mCycle, State.dmaStep_later]

theorem State.mCycle_cart (s : State) : s.mCycle.cart = (s.dmaStep 0).cart := by
  simp [State.mCycle, State.dmaStep_later]

theorem State.mCycle_bootMapped (s : State) : s.mCycle.bootMapped = s.bootMapped := by
  simp [State.mCycle]

theorem State.mCycle_params (s : State) : s.mCycle.params = s.params := by
  simp [State.mCycle]

/-- A start latched: the transfer begins at the register's page (rule R230). -/
theorem Dma.latch_start {d : Dma} (h : d.start = true) :
    d.latch = ⟨d.reg, true, Word.ofBytes d.reg 0x00#8, 0, false⟩ := by
  unfold Dma.latch
  by_cases hi : Config.dmaLength ≤ d.idx <;> simp [hi, h]

/-- A running transfer is over once its last byte is copied (rule R231). -/
theorem Dma.latch_running (v : Byte) (src : Word) (n : Nat) :
    Dma.latch ⟨v, true, src, n, false⟩ = ⟨v, decide (n < 160), src, n, false⟩ := by
  unfold Dma.latch Config.dmaLength
  by_cases hi : 160 ≤ n
  · simp [hi, Nat.not_lt.mpr hi]
  · simp [hi, Nat.lt_of_not_le hi]

/-! The byte read. -/

/-- A page whose bytes stand in memory: a NoMBC cartridge's, VRAM's or WRAM's. -/
def State.PageInMemory (v : Byte) (s : State) : Prop :=
  (∃ ram, s.cart = .noMbc ram) ∨ 0x80 ≤ v.toNat ∧ v.toNat < 0xA0 ∨ 0xC0 ≤ v.toNat

theorem inCart_iff (n : Nat) : inCart n = true ↔ n < 0x8000 ∨ 0xA000 ≤ n ∧ n < 0xC000 := by
  simp [inCart, inCartRom, inCartRam]

/-- A read of a cartridge address by the DMA unit (rules R202, R240, R241). -/
theorem State.romRead_eq_dmaByte {ram : Bool} {s : State} {n : Nat} (hc : s.cart = .noMbc ram)
    (hn : n < 0x8000 ∨ 0xA000 ≤ n ∧ n < 0xC000) : s.romRead n = (dmaByte s n, s) := by
  have hlow : ¬0xE000 ≤ n := by omega
  unfold State.romRead dmaByte
  rw [if_neg hlow]
  by_cases hb : n < 0x100 ∧ s.bootMapped = true
  · simp [hb, State.bootByte]
  · rw [if_neg hb, if_neg (by simpa [and_comm] using hb)]
    unfold State.cartRead
    rw [hc]
    by_cases hr : n < 0x8000
    · have hram : ¬0xA000 ≤ n := by omega
      simp [inCartRom, hr, hram, State.byteAt]
    · have hram : 0xA000 ≤ n ∧ n < 0xC000 := by omega
      cases ram <;> simp [inCartRom, hr, hram, State.byteAt]

/-- The DMA unit's read of a page that stands in memory changes nothing (rule R231). -/
theorem State.dmaRead_eq_dmaByte {v : Byte} {s : State} {i : Nat} (hs : s.PageInMemory v)
    (hi : i < 256) : s.dmaRead (256 * v.toNat + i) = (dmaByte s (256 * v.toNat + i), s) := by
  unfold State.dmaRead
  by_cases he : 0xE000 ≤ 256 * v.toNat + i
  · rw [if_pos he, dmaByte, if_pos he]
    rfl
  · rw [if_neg he]
    by_cases hc : inCart (256 * v.toNat + i) = true
    · rw [if_pos hc]
      rw [inCart_iff] at hc
      obtain ⟨ram, hram⟩ | hv | hv := hs
      · exact State.romRead_eq_dmaByte hram hc
      · omega
      · omega
    · rw [if_neg hc]
      rw [inCart_iff] at hc
      have hb : ¬(256 * v.toNat + i < 0x100 ∧ s.bootMapped = true) := fun h => by omega
      have hram : ¬(0xA000 ≤ 256 * v.toNat + i ∧ 256 * v.toNat + i < 0xC000 ∧
        s.cart = .noMbc false) := fun h => by omega
      rw [dmaByte, if_neg he, if_neg hb, if_neg hram]
      rfl

/-- The byte read depends on no byte of OAM (rule R231). -/
theorem dmaByte_congr {s u : State} (hb : u.bootMapped = s.bootMapped) (hp : u.params = s.params)
    (hc : u.cart = s.cart) (hm : ∀ k, k < 0xFE00 → u.byteAt k = s.byteAt k) (n : Nat) :
    dmaByte u n = dmaByte s n := by
  have hecho : u.byteAt (0xC000 + (n - 0xE000) % 0x2000) =
      s.byteAt (0xC000 + (n - 0xE000) % 0x2000) := hm _ (by omega)
  unfold dmaByte
  rw [hb, hp, hc, hecho]
  by_cases he : 0xE000 ≤ n
  · rw [if_pos he, if_pos he]
  · rw [if_neg he, if_neg he, hm n (by omega)]

/-! The transfer. -/

/-- `u` is the state `n` M-cycles into the transfer of page `v` that was asked for in `s`. -/
structure Copied (v : Byte) (s : State) (n : Nat) (u : State) : Prop where
  dma : u.dma = ⟨v, decide (n < 160), Word.ofBytes v 0x00#8, n, false⟩
  copied : ∀ i, i < n → u.byteAt (0xFE00 + i) = dmaByte s (256 * v.toNat + i)
  kept : ∀ k, ¬(0xFE00 ≤ k ∧ k < 0xFE00 + n) → u.byteAt k = s.byteAt k
  cart : u.cart = s.cart
  bootMapped : u.bootMapped = s.bootMapped
  params : u.params = s.params

/-- The write of 0xFF46: its own M-cycle copies nothing and latches the start (rule R230). -/
theorem Copied.start (v : Byte) {s : State} (hd : s.dma.active = false) :
    Copied v s 0 (s.memWrite 0xFF46#16 v) := by
  have hw : s.busWrite 0xFF46#16 v = { s with dma := { s.dma with reg := v, start := true } } :=
    State.busWrite_reg hd (by decide) rfl
  unfold State.memWrite
  rw [hw]
  generalize hu : ({ s with dma := { s.dma with reg := v, start := true } } : State) = u
  have hidle : u.dmaStep 0 = u := State.dmaStep_idle (by rw [← hu]; exact hd)
  have hmem : u.mCycle.mem = s.mem := by rw [State.mCycle_dmaMem, hidle, ← hu]
  refine ⟨?_, fun i hi => absurd hi (Nat.not_lt_zero i), fun k _ => ?_, ?_, ?_, ?_⟩
  · rw [State.mCycle_dma, hidle, ← hu, Dma.latch_start rfl]
    rfl
  · rw [State.byteAt, hmem, State.byteAt]
  · rw [State.mCycle_cart, hidle, ← hu]
  · rw [State.mCycle_bootMapped, ← hu]
  · rw [State.mCycle_params, ← hu]

/-- One M-cycle of the transfer copies its next byte (rule R231). -/
theorem Copied.mCycle {v : Byte} {s u : State} {n : Nat} (h : Copied v s n u) (hn : n < 160)
    (hs : s.PageInMemory v) : Copied v s (n + 1) u.mCycle := by
  have hread : u.dmaRead (256 * v.toNat + n) = (dmaByte s (256 * v.toNat + n), u) := by
    rw [State.dmaRead_eq_dmaByte (by rw [State.PageInMemory, h.cart]; exact hs) (by omega),
      dmaByte_congr h.bootMapped h.params h.cart (fun k hk => h.kept k (by omega))]
  have hstep : u.dmaStep 0 = { u with
      mem := Cells.write u.mem (0xFE00 + n) (dmaByte s (256 * v.toNat + n))
      dma := ⟨v, true, Word.ofBytes v 0x00#8, n + 1, false⟩ } := by
    have hsrc : (Word.ofBytes v 0x00#8).toNat + n = 256 * v.toNat + n := by
      rw [Word.toNat_ofBytes, Nat.mul_comm]
      rfl
    unfold State.dmaStep
    rw [h.dma, if_pos ⟨decide_eq_true hn, rfl, hn⟩]
    dsimp only
    rw [hsrc, hread, decide_eq_true hn]
  have hbyte (k : Nat) : u.mCycle.byteAt k =
      Cells.read (Cells.write u.mem (0xFE00 + n) (dmaByte s (256 * v.toNat + n))) k := by
    rw [State.byteAt, State.mCycle_dmaMem, hstep]
  have hother {k : Nat} (hk : k ≠ 0xFE00 + n) : u.mCycle.byteAt k = u.byteAt k :=
    (hbyte k).trans (Cells.read_write_other _ _ hk)
  refine ⟨?_, fun i hi => ?_, fun k hk => ?_, ?_, ?_, ?_⟩
  · rw [State.mCycle_dma, hstep, Dma.latch_running]
  · by_cases he : i = n
    · rw [he, hbyte, Cells.read_write_same]
    · rw [hother (by omega), h.copied i (by omega)]
  · rw [hother (by omega), h.kept k (by omega)]
  · rw [State.mCycle_cart, hstep]
    exact h.cart
  · rw [State.mCycle_bootMapped, h.bootMapped]
  · rw [State.mCycle_params, h.params]

/-- Some M-cycles after the write of 0xFF46. -/
theorem Copied.mCycles {v : Byte} {s : State} (hd : s.dma.active = false) (hs : s.PageInMemory v)
    {n : Nat} (hn : n ≤ 160) : Copied v s n (State.mCycles n (s.memWrite 0xFF46#16 v)) := by
  induction n with
  | zero => exact .start v hd
  | succ n ih =>
    rw [State.mCycles_succ]
    exact (ih (by omega)).mCycle hn hs

/-- Settles O54, by induction on the M-cycles after the write. -/
theorem dmaTransfer : Obligations.DmaTransfer := by
  unfold Obligations.DmaTransfer
  intro v n s hd hn hs
  have h := Copied.mCycles hd hs hn
  refine ⟨h.copied, h.kept, ?_, ?_, ?_⟩ <;> rw [h.dma]

end Sys2Proof.Machine
end

section
/-! PROOF. What a step does to the state outside the CPU, said once: the M-cycles and accesses an instruction,
an interrupt check and an idle M-cycle are made of (rules R10, R711, R720); and from it that no step changes
the cartridge's ROM (rules R241, R253). -/

namespace Sys2Proof.Machine

/-! The transitions a step is made of. -/

/-- From `s` the CPU comes to `t` by changes of its own registers, M-cycles with and without an access,
STOP's clearing of the counter (rule R603) and an acknowledged interrupt (rule R711). -/
inductive State.Reaches (s : State) : State → Prop where
  | refl : Reaches s s
  | onCpu {t : State} (h : Reaches s t) (f : Cpu → Cpu) : Reaches s (t.onCpu f)
  | internal {t : State} (h : Reaches s t) : Reaches s t.internal
  | memRead {t : State} (h : Reaches s t) (a : Word) : Reaches s (t.memRead a).2
  | memWrite {t : State} (h : Reaches s t) (a : Word) (v : Byte) : Reaches s (t.memWrite a v)
  | clearCounter {t : State} (h : Reaches s t) :
    Reaches s { t with timer := t.timer.clearCounter }
  | acknowledge {t : State} (h : Reaches s t) (i : Nat) : Reaches s (t.acknowledge i)

section

variable {s t : State} (h : s.Reaches t)
include h

theorem State.Reaches.fetch8 : s.Reaches t.fetch8.2 := (h.memRead _).onCpu _

theorem State.Reaches.fetchOpcode : s.Reaches t.fetchOpcode.2 := (h.memRead _).onCpu _

theorem State.Reaches.fetchOperands (n : Nat) : s.Reaches (t.fetchOperands n).2 := by
  unfold State.fetchOperands
  split
  · exact h
  · exact h.fetch8
  · exact h.fetch8.fetch8

theorem State.Reaches.fetch : s.Reaches t.fetch.2 := h.fetchOpcode.fetchOperands _

theorem State.Reaches.source (x : Source) : s.Reaches (x.read t).2 := by
  cases x with
  | atHl => exact h.memRead _
  | reg r => exact h
  | imm n => exact h

theorem State.Reaches.modifyAtHl (g : Byte → Cpu → Byte × Cpu) : s.Reaches (t.modifyAtHl g) :=
  ((h.memRead _).onCpu _).memWrite _ _

theorem State.Reaches.pushWord (v : Word) : s.Reaches (t.pushWord v) :=
  (((h.onCpu _).memWrite _ _).onCpu _).memWrite _ _

theorem State.Reaches.popWord : s.Reaches t.popWord.2 := by
  rw [State.popWord_eq]
  dsimp only
  exact ((h.memRead _).memRead _).onCpu _

theorem State.Reaches.returnPc : s.Reaches t.returnPc := by
  unfold State.returnPc
  exact h.popWord.internal.onCpu _

theorem State.Reaches.aluOp (op : Alu) (x : Source) : s.Reaches (aluOp op x t) := by
  unfold Machine.aluOp
  exact (h.source x).onCpu _

theorem State.Reaches.call (nn : Word) : s.Reaches (call nn t) :=
  (h.internal.pushWord _).onCpu _

theorem State.Reaches.guarded (c : Prop) [Decidable c] {u : State} (hu : s.Reaches u) :
    s.Reaches (if c then u else t) := by
  split
  · exact hu
  · exact h

/-- The condition of `RET cc` takes an M-cycle of its own (rule R569). -/
theorem State.Reaches.returnIf (cc : Cond) : s.Reaches (returnIf cc t) :=
  h.internal.guarded _ h.internal.returnPc

theorem State.Reaches.halt : s.Reaches (halt t) := by
  rcases halt_cpu_cases t with e | e | e <;> rw [e]
  · exact h.onCpu _
  · exact h
  · exact h.onCpu _

theorem State.Reaches.stopDiv : s.Reaches t.stopDiv := by
  unfold State.stopDiv
  split
  · exact h.clearCounter
  · exact h

theorem State.Reaches.runCbRow (op : Byte) : s.Reaches (runCbRow op t) := by
  unfold Machine.runCbRow
  dsimp only
  split
  · exact h.onCpu _
  · exact h.modifyAtHl _
  · exact (h.source _).onCpu _
  · exact (h.source _).onCpu _
  · exact h.onCpu _
  · exact h.modifyAtHl _
  · exact h.onCpu _
  · exact h.modifyAtHl _

theorem State.Reaches.dispatch : s.Reaches t.dispatch := by
  have ha := h.acknowledge t.irq.lowest
  unfold State.dispatch
  dsimp only
  generalize t.acknowledge t.irq.lowest = u at ha ⊢
  exact (ha.internal.internal.pushWord _).internal.onCpu _

theorem State.Reaches.interruptCheck : s.Reaches t.interruptCheck := by
  unfold State.interruptCheck
  split
  · exact h.dispatch
  · exact h

theorem State.Reaches.idle : s.Reaches t.idle := by
  unfold State.idle
  dsimp only
  split
  · exact h.internal
  · exact (h.internal.onCpu _).interruptCheck

end

/-! The instructions. -/

/-- The instruction's outcome is reached from every state that its own state is reached from. -/
def Instr.Reaching (i : Instr) : Prop :=
  ∀ {s t u : State}, s.Reaches t → exec i t = .next u → s.Reaches u

theorem Instr.reaching_of {i : Instr} {f : State → State} (he : ∀ s, exec i s = .next (f s))
    (hf : ∀ {s t : State}, s.Reaches t → s.Reaches (f t)) : Instr.Reaching i := by
  intro s t u h hu
  obtain rfl := Host.Outcome.next.inj ((he t).symm.trans hu)
  exact hf h

/-- The transitions of every instruction, over the forms of `Instr.byShape`. -/
theorem Instr.reaching (i : Instr) : Instr.Reaching i := by
  induction i using Instr.byShape with
  -- An 8-bit operand read, if it stands in memory, and the registers.
  | h_ldReg x y => exact reaching_of (exec_ldReg x y) (fun h => (h.source _).onCpu _)
  | h_ldRegImm x n => exact reaching_of (exec_ldRegImm x n) (fun h => (h.source _).onCpu _)
  | h_ldRegAtHl x => exact reaching_of (exec_ldRegAtHl x) (fun h => (h.source _).onCpu _)
  | h_aluReg x y => exact reaching_of (exec_aluReg x y) (fun h => h.aluOp _ _)
  | h_aluAtHl x => exact reaching_of (exec_aluAtHl x) (fun h => h.aluOp _ _)
  | h_aluImm x n => exact reaching_of (exec_aluImm x n) (fun h => h.aluOp _ _)
  | h_bitReg x y => exact reaching_of (exec_bitReg x y) (fun h => (h.source _).onCpu _)
  | h_bitAtHl x => exact reaching_of (exec_bitAtHl x) (fun h => (h.source _).onCpu _)
  | h_ldAAtBc | h_ldAAtDe | h_ldhAAtC | h_ldhAAtN | h_ldAAtNn =>
    exact reaching_of (fun _ => rfl) (fun h => (h.memRead _).onCpu _)
  | h_ldAAtHli | h_ldAAtHld =>
    exact reaching_of (fun _ => rfl) (fun h => ((h.memRead _).onCpu _).onCpu _)
  -- The registers alone.
  | h_incReg x => exact reaching_of (exec_incReg x) (fun h => h.onCpu _)
  | h_decReg x => exact reaching_of (exec_decReg x) (fun h => h.onCpu _)
  | h_ldPair x nn => exact reaching_of (exec_ldPair x nn) (fun h => h.onCpu _)
  | h_rotReg x y => exact reaching_of (exec_rotReg x y) (fun h => h.onCpu _)
  | h_resReg x y => exact reaching_of (exec_resReg x y) (fun h => h.onCpu _)
  | h_setReg x y => exact reaching_of (exec_setReg x y) (fun h => h.onCpu _)
  | h_rlca | h_rrca | h_rla | h_rra | h_daa | h_cpl | h_scf | h_ccf | h_jpHl | h_di | h_ei
  | h_illegalD3 | h_illegalDB | h_illegalDD | h_illegalE3 | h_illegalE4 | h_illegalEB | h_illegalEC
  | h_illegalED | h_illegalF4 | h_illegalFC | h_illegalFD =>
    exact reaching_of (fun _ => rfl) (fun h => h.onCpu _)
  | h_nop => exact reaching_of (fun _ => rfl) (fun h => h)
  | h_halt => exact reaching_of (fun _ => rfl) (fun h => h.halt)
  | h_stop => exact reaching_of (fun _ => rfl) (fun h => (h.onCpu _).stopDiv)
  -- Stores.
  | h_ldAtHlReg x => exact reaching_of (exec_ldAtHlReg x) (fun h => h.memWrite _ _)
  | h_ldAtBcA | h_ldAtDeA | h_ldhAtCA | h_ldAtHlN | h_ldhAtNA | h_ldAtNnA =>
    exact reaching_of (fun _ => rfl) (fun h => h.memWrite _ _)
  | h_ldAtHliA | h_ldAtHldA =>
    exact reaching_of (fun _ => rfl) (fun h => (h.memWrite _ _).onCpu _)
  | h_ldAtNnSp nn =>
    exact reaching_of (fun _ => rfl) (fun h => (h.memWrite _ _).memWrite _ _)
  -- A read and a write back at HL.
  | h_rotAtHl x => exact reaching_of (exec_rotAtHl x) (fun h => h.modifyAtHl _)
  | h_resAtHl x => exact reaching_of (exec_resAtHl x) (fun h => h.modifyAtHl _)
  | h_setAtHl x => exact reaching_of (exec_setAtHl x) (fun h => h.modifyAtHl _)
  | h_incAtHl | h_decAtHl => exact reaching_of (fun _ => rfl) (fun h => h.modifyAtHl _)
  -- 16-bit arithmetic, with its internal M-cycles.
  | h_addHlPair x => exact reaching_of (exec_addHlPair x) (fun h => (h.onCpu _).internal.onCpu _)
  | h_incPair x => exact reaching_of (exec_incPair x) (fun h => h.internal.onCpu _)
  | h_decPair x => exact reaching_of (exec_decPair x) (fun h => h.internal.onCpu _)
  | h_ldSpHl => exact reaching_of (fun _ => rfl) (fun h => (h.onCpu _).internal)
  | h_ldHlSpOff e => exact reaching_of (fun _ => rfl) (fun h => (h.onCpu _).internal.onCpu _)
  | h_addSpOff e =>
    exact reaching_of (fun _ => rfl) (fun h => (h.onCpu _).internal.internal.onCpu _)
  -- The stack, jumps, calls and returns, and 0xCB.
  | h_push x => exact reaching_of (exec_push x) (fun h => h.internal.pushWord _)
  | h_pop x => exact reaching_of (exec_pop x) (fun h => h.popWord.onCpu _)
  | h_jrCond x e => exact reaching_of (exec_jrCond x e) (fun h => h.guarded _ (h.internal.onCpu _))
  | h_jpCond x nn => exact reaching_of (exec_jpCond x nn) (fun h => h.guarded _ (h.internal.onCpu _))
  | h_callCond x nn => exact reaching_of (exec_callCond x nn) (fun h => h.guarded _ (h.call nn))
  | h_retCond x => exact reaching_of (exec_retCond x) (fun h => h.returnIf x)
  | h_rst x => exact reaching_of (exec_rst x) (fun h => h.call _)
  | h_jrOff | h_jpNn => exact reaching_of (fun _ => rfl) (fun h => h.internal.onCpu _)
  | h_callNn nn => exact reaching_of (fun _ => rfl) (fun h => h.call nn)
  | h_ret => exact reaching_of (fun _ => rfl) (fun h => h.returnPc)
  | h_reti => exact reaching_of (fun _ => rfl) (fun h => h.returnPc.onCpu _)
  | h_prefixCb => exact reaching_of (fun _ => rfl) (fun h => h.fetch8.runCbRow _)

/-- A step that answers a next state reaches it from the state the host's input leaves. -/
theorem step_reaches {s t : State} (h : step s = .next t) : s.takeInput.Reaches t := by
  unfold step State.runCpu at h
  split at h
  · cases h
  · split at h
    · obtain rfl := Host.Outcome.next.inj h
      exact State.Reaches.refl.idle
    · unfold State.runInstruction at h
      dsimp only at h
      split at h
      · rename_i u hu
        obtain rfl := Host.Outcome.next.inj h
        exact (Instr.reaching _ State.Reaches.refl.fetch hu).interruptCheck
      · cases h
      · cases h

/-! The ROM. -/

/-- The ROM's bytes, and whether a NoMBC cartridge is plugged in and has RAM, are the same. -/
structure State.SameRom (s t : State) : Prop where
  ram : t.cart.ram = s.cart.ram
  bytes : ∀ k, k < 0x8000 → t.byteAt k = s.byteAt k

theorem State.SameRom.refl (s : State) : s.SameRom s := ⟨rfl, fun _ _ => rfl⟩

theorem State.SameRom.trans {s t u : State} (h : s.SameRom t) (h' : t.SameRom u) : s.SameRom u :=
  ⟨h'.ram.trans h.ram, fun k hk => (h'.bytes k hk).trans (h.bytes k hk)⟩

theorem inOam_rom {k : Nat} (hk : k < 0x8000) : inOam k = false := by
  simp [inOam]; omega

/-- What keeps the frame keeps the ROM: the units store to OAM only. -/
theorem Frame.sameRom {s t : State} (h : Frame s t) : s.SameRom t where
  ram := congrArg Settings.cartRam h.settings
  bytes k hk := h.bytes k (.inl (inOam_rom hk))

/-! A CPU write. -/

/-- No write of the ROM's addresses is stored (rule R241). -/
theorem State.storeKey_rom {a : Word} (s : State) (ha : a.toNat < 0x8000) : s.storeKey a = none := by
  have hram : inCartRam a.toNat = false := by simp [inCartRam]; omega
  unfold State.storeKey
  dsimp only
  rw [decodeAddr_cartridge (.inl ha), hram]
  cases s.dmaBlocks a.toNat <;> cases s.cart <;> rfl

/-- A byte is stored at its address, or at the address of WRAM it echoes (rule R201). -/
theorem State.storeKey_eq {a : Word} {s : State} {k : Nat} (h : s.storeKey a = some k) :
    k = a.toNat ∨ decodeAddr a.toNat = .echo ∧ k = a.toNat - 0x2000 := by
  unfold State.storeKey at h
  dsimp only at h
  split at h
  · cases h
  · cases hd : decodeAddr a.toNat <;> rw [hd] at h
    case cartridge =>
      cases hc : s.cart <;> simp [hc] at h
      exact .inl h.2.symm
    case vram | oam => exact .inl (by simp at h; exact h.2.symm)
    case wram | hram => exact .inl (Option.some.inj h).symm
    case echo => exact .inr ⟨rfl, (Option.some.inj h).symm⟩
    case unusable | io | ie => cases h

/-- A byte is stored above the ROM only. -/
theorem State.storeKey_ge {a : Word} {s : State} {k : Nat} (h : s.storeKey a = some k) :
    0x8000 ≤ k := by
  have ha : 0x8000 ≤ a.toNat := by
    by_contra hlt
    rw [State.storeKey_rom s (by omega)] at h
    cases h
  rcases State.storeKey_eq h with hk | ⟨hd, hk⟩
  · omega
  · have hv : 0xA000 ≤ a.toNat := by
      by_contra hlt
      rw [decodeAddr_vram ha (by omega)] at hd
      cases hd
    omega

theorem State.ioWrite_cart (n : Nat) (v : Byte) (s : State) : (s.ioWrite n v).cart = s.cart := by
  unfold State.ioWrite; split <;> rfl

theorem State.busWrite_ram (a : Word) (v : Byte) (s : State) :
    (s.busWrite a v).cart.ram = s.cart.ram := by
  unfold State.busWrite
  split
  · rfl
  · split
    · rfl
    · unfold State.registerWrite
      cases decodeAddr a.toNat with
      | cartridge => exact Cart.tell_ram _ _ _
      | io => exact congrArg Cart.ram (State.ioWrite_cart _ v s)
      | _ => rfl

theorem State.memWrite_sameRom (a : Word) (v : Byte) (s : State) : s.SameRom (s.memWrite a v) where
  ram := (State.mCycle_frame _).sameRom.ram.trans (State.busWrite_ram a v s)
  bytes _ hk :=
    State.memWrite_other (fun h => Nat.not_lt.mpr (State.storeKey_ge h) hk) (.inl (inOam_rom hk))

/-- Whatever the CPU does, the ROM stays (rules R241, R253). -/
theorem State.Reaches.sameRom {s t : State} (h : s.Reaches t) : s.SameRom t := by
  induction h with
  | refl => exact .refl s
  | onCpu _ f ih => exact ⟨ih.ram, ih.bytes⟩
  | internal _ ih => exact ih.trans (State.internal_frame _).sameRom
  | memRead _ a ih => exact ih.trans (State.memRead_frame a _).sameRom
  | memWrite _ a v ih => exact ih.trans (State.memWrite_sameRom a v _)
  | clearCounter _ ih => exact ⟨ih.ram, ih.bytes⟩
  | acknowledge _ i ih => exact ⟨ih.ram, ih.bytes⟩

/-! The host's inputs. -/

/-- An overlay leaves the keys its test shuts out alone. -/
theorem Cells.read_overlay_of_not_keep {w : Nat} {keep : Nat → Bool} {k : Nat} (hk : keep k = false)
    (r m : Cells w) : Cells.read (Cells.overlay keep m r) k = Cells.read m k := by
  induction r generalizing m with
  | nil => rfl
  | cons e r ih =>
    unfold Cells.overlay
    split
    · rename_i he
      rw [ih, Cells.read_write_other]
      rintro rfl
      exact Bool.false_ne_true (hk.symm.trans he)
    · exact ih m

/-- A reset keeps the ROM's bytes (rule R904). -/
theorem Memory.read_reset_rom (ramInit : List Host.Cell) (m : Memory) {k : Nat} (hk : k < 0x8000) :
    Cells.read (Memory.reset ramInit m) k = Cells.read m k := by
  have hram : (inWram k || inHram k) = false := by simp [inWram, inHram]; omega
  have hcart : inCart k = true := (inCart_iff k).mpr (.inl hk)
  unfold Memory.reset
  rw [Cells.read_overlay_of_not_keep hram, Cells.read_restrict, if_pos hcart]

theorem HostInput.apply_sameRom (x : HostInput) (s : State) : s.SameRom (x.apply s) := by
  cases x with
  | none => exact .refl s
  | buttons mask => exact ⟨rfl, fun _ _ => rfl⟩
  | serialIn v => exact ⟨rfl, fun _ _ => rfl⟩
  | hostTime now => exact ⟨Cart.tell_ram _ _ _, fun _ _ => rfl⟩
  | reset fast ramInit =>
    exact ⟨Cart.tell_ram _ _ _, fun _ hk => Memory.read_reset_rom ramInit s.mem hk⟩

theorem State.takeInput_sameRom (s : State) : s.SameRom s.takeInput := by
  unfold State.takeInput
  split
  · exact .refl s
  · rename_i x rest _
    have h := x.apply_sameRom { s with hostInputs := rest }
    exact ⟨h.ram, h.bytes⟩

theorem Cart.ram_eq_some {c : Cart} {ram : Bool} : c.ram = some ram ↔ c = .noMbc ram := by
  cases c <;> simp [Cart.ram]

/-- Settles O60: the host's input keeps the ROM, and so does everything a step is made of. -/
theorem romNeverChanges : Obligations.RomNeverChanges := by
  unfold Obligations.RomNeverChanges
  intro s t ram hc hstep
  have h := s.takeInput_sameRom.trans (step_reaches hstep).sameRom
  refine ⟨?_, h.bytes⟩
  rw [hc, ← Cart.ram_eq_some, h.ram, Cart.ram_eq_some, hc]

end Sys2Proof.Machine
end

section
/-! PROOF. What stops a step: `exec` answers for every instruction, and a LOCKED CPU alone takes no step
(rules R214, R730, R731). -/

namespace Sys2Proof.Machine

theorem exec_answers (i : Instr) (s : State) : ∃ t, exec i s = .next t := by
  obtain ⟨t, _, ht, -⟩ := Instr.takesAtMostSix i s
  exact ⟨t, ht⟩

theorem State.runInstruction_answers (s : State) : ∃ t, s.runInstruction = .next t := by
  obtain ⟨t, ht⟩ := exec_answers s.fetch.1 s.fetch.2
  exact ⟨t.interruptCheck, State.runInstruction_of_exec rfl ht⟩

/-- A CPU that is not LOCKED idles an M-cycle or runs an instruction (rules R320, R720). -/
theorem State.runCpu_unlocked {s : State} (h : s.cpu.locked = false) :
    s.runCpu = if s.cpu.halted || s.cpu.stopped then .next s.idle else s.runInstruction := by
  simp [State.runCpu, h]

/-- Settles O35: an instruction always answers, so a step fails only by the fault of a LOCKED CPU. -/
theorem onlyLockedFaults : Obligations.OnlyLockedFaults := by
  unfold Obligations.OnlyLockedFaults
  refine ⟨exec_answers, fun s h => ?_, fun s h => if_pos h⟩
  unfold step
  rw [State.runCpu_unlocked h]
  split
  · exact ⟨_, rfl⟩
  · exact State.runInstruction_answers _

end Sys2Proof.Machine
end

section
/-! PROOF. The bus: what a CPU read of each address gives, what the PPU and the DMA block, and what a CPU
write to memory stores (rules R200 to R202, R211, R213, R214, R220, R221, R232, R240, R241, R250). -/

namespace Sys2Proof.Machine

/-! What the PPU blocks. -/

theorem Ppu.vramBlocked_iff {p : Ppu} :
    p.vramBlocked = true ↔ p.lcdc.getLsbD 7 = true ∧ p.mode = .drawing := by
  simp [Ppu.vramBlocked, Ppu.lcdOn]

theorem Ppu.oamBlocked_iff {p : Ppu} :
    p.oamBlocked = true ↔
      p.lcdc.getLsbD 7 = true ∧ (p.mode = .oamScan ∨ p.mode = .drawing) := by
  simp [Ppu.oamBlocked, Ppu.lcdOn]

/-! The cartridge. -/

/-- A NoMBC cartridge gives the byte in memory, or 0xFF where it has no RAM (rule R241). -/
theorem State.cartRead_noMbc {ram : Bool} {s : State} (n : Nat) (hc : s.cart = .noMbc ram) :
    s.cartRead n = (if inCartRom n || ram then s.byteAt n else 0xFF#8, s) := by
  unfold State.cartRead
  rw [hc]
  rfl

/-- A NoMBC cartridge has no register to write (rule R241). -/
theorem State.cartNotify_noMbc {ram : Bool} {s : State} (n : Nat) (v : Byte)
    (hc : s.cart = .noMbc ram) : s.cartNotify n v = s := by
  have h : s.cart.tell s.clock (.write n v) = s.cart := by rw [hc]; rfl
  unfold State.cartNotify State.tellCart
  rw [h]

section

variable {a : Word} {s : State}

/-! Accesses that are blocked. -/

/-- An access of VRAM or OAM that the PPU blocks, whether or not a DMA runs (rules R220, R221, R232). -/
theorem State.bus_ppuBlocked (v : Byte)
    (h : decodeAddr a.toNat = .vram ∧ s.ppu.vramBlocked = true ∨
      decodeAddr a.toNat = .oam ∧ s.ppu.oamBlocked = true) :
    s.busRead a = (0xFF#8, s) ∧ s.busWrite a v = s := by
  cases hd : s.dmaBlocks a.toNat with
  | true => exact State.bus_blocked hd
  | false =>
    obtain ⟨ht, hb⟩ | ⟨ht, hb⟩ := h <;>
      exact ⟨(State.busRead_free hd ht).trans (by simp [hb]),
        State.busWrite_none hd ((State.storeKey_free hd ht).trans (by simp [hb])) ht⟩

theorem State.dmaBlocks_outside_hram (hd : s.dma.active = true)
    (hn : ¬(0xFF80 ≤ a.toNat ∧ a.toNat < 0xFFFF)) : s.dmaBlocks a.toNat = true := by
  rw [not_and_or] at hn
  simpa [State.dmaBlocks, hd, inHram] using hn

end

/-- Settles O43: by the unit that blocks the access. -/
theorem blockedAccess : Obligations.BlockedAccess := by
  unfold Obligations.BlockedAccess
  intro a v s n h
  obtain ⟨hd, hn⟩ | ⟨hon, hm, h1, h2⟩ | ⟨hon, hm, h1, h2⟩ := h
  · exact State.bus_blocked (State.dmaBlocks_outside_hram hd hn)
  · exact State.bus_ppuBlocked v (.inl ⟨decodeAddr_vram h1 h2, Ppu.vramBlocked_iff.mpr ⟨hon, hm⟩⟩)
  · exact State.bus_ppuBlocked v (.inr ⟨decodeAddr_oam h1 h2, Ppu.oamBlocked_iff.mpr ⟨hon, hm⟩⟩)

/-! Reads with no DMA, target by target. -/

section

variable {a : Word} {s : State} (hd : s.dma.active = false)
include hd

/-- The boot ROM, while it is mapped (rule R202). -/
theorem State.busRead_boot (hn : a.toNat < 0x100) (hb : s.bootMapped = true) :
    s.busRead a = (s.bootByte a.toNat, s) := by
  rw [State.busRead_free (State.dmaBlocks_idle _ hd) (decodeAddr_cartridge (.inl (by omega)))]
  simp [State.romRead, hn, hb]

/-- The cartridge, where the boot ROM does not cover it (rules R202, R240). -/
theorem State.busRead_cart (hn : a.toNat < 0x8000 ∧ (0x100 ≤ a.toNat ∨ s.bootMapped = false) ∨
    0xA000 ≤ a.toNat ∧ a.toNat < 0xC000) : s.busRead a = s.cartRead a.toNat := by
  have hboot : ¬(s.bootMapped = true ∧ a.toNat < 0x100) := by
    rintro ⟨hb, hlt⟩
    rw [hb] at hn
    simp at hn
    omega
  rw [State.busRead_free (State.dmaBlocks_idle _ hd) (decodeAddr_cartridge (hn.imp And.left id))]
  unfold State.romRead
  exact if_neg (by simpa using hboot)

theorem State.busRead_vram (h1 : 0x8000 ≤ a.toNat) (h2 : a.toNat < 0xA000) :
    s.busRead a = (if s.ppu.vramBlocked then 0xFF#8 else s.byteAt a.toNat, s) :=
  State.busRead_free (State.dmaBlocks_idle _ hd) (decodeAddr_vram h1 h2)

theorem State.busRead_echo (h1 : 0xE000 ≤ a.toNat) (h2 : a.toNat < 0xFE00) :
    s.busRead a = (s.byteAt (a.toNat - 0x2000), s) :=
  State.busRead_free (State.dmaBlocks_idle _ hd) (decodeAddr_echo h1 h2)

theorem State.busRead_oam (h1 : 0xFE00 ≤ a.toNat) (h2 : a.toNat < 0xFEA0) :
    s.busRead a = (if s.ppu.oamBlocked then 0xFF#8 else s.byteAt a.toNat, s) :=
  State.busRead_free (State.dmaBlocks_idle _ hd) (decodeAddr_oam h1 h2)

theorem State.busRead_unusable (h1 : 0xFEA0 ≤ a.toNat) (h2 : a.toNat < 0xFF00) :
    s.busRead a = (0xFF#8, s) :=
  State.busRead_free (State.dmaBlocks_idle _ hd) (decodeAddr_unusable h1 h2)

theorem State.busRead_hram (h1 : 0xFF80 ≤ a.toNat) (h2 : a.toNat < 0xFFFF) :
    s.busRead a = (s.byteAt a.toNat, s) :=
  State.busRead_free (State.dmaBlocks_idle _ hd) (decodeAddr_hram h1 h2)

theorem State.busRead_ie (hn : a.toNat = 0xFFFF) :
    s.busRead a = (0xE0#8 ||| s.irq.ie.setWidth 8, s) :=
  State.busRead_free (State.dmaBlocks_idle _ hd) (t := .ie) (by rw [hn]; rfl)

end

/-- Settles O41: by the target of the address. -/
theorem busReadMap : Obligations.BusReadMap := by
  unfold Obligations.BusReadMap
  intro a s hd n on
  refine ⟨State.busRead_boot hd, fun hn => ?_, fun h1 h2 => ?_, State.busRead_wram hd,
    State.busRead_echo hd, fun h1 h2 => ?_, State.busRead_unusable hd, State.busRead_hram hd,
    State.busRead_ie hd⟩
  · have hcart := State.busRead_cart hd hn
    refine ⟨hcart, fun hc => ?_, fun hc => ?_⟩ <;> rw [hcart, State.cartRead_noMbc _ hc]
    · simp [n]
    · simp [n, inCartRom]
  · rw [State.busRead_vram hd h1 h2]
    simp only [Ppu.vramBlocked_iff, on, n]
  · rw [State.busRead_oam hd h1 h2]
    simp only [Ppu.oamBlocked_iff, on, n]

/-! Writes with no DMA. -/

/-- A write at `a` is stored at the key `k`, and a read at `b` gives the byte stored there, whatever
memory holds. -/
structure State.Cell (s : State) (a b : Word) (k : Nat) : Prop where
  store : s.storeKey a = some k
  read : ∀ m : Memory, (({ s with mem := m } : State).busRead b).1 = Cells.read m k

section

variable {a b : Word} {s : State}

/-- The byte written is read back, and nothing else changes. -/
theorem State.Cell.write {k : Nat} (h : s.Cell a b k) (v : Byte) :
    ((s.busWrite a v).busRead b).1 = v ∧
    (∀ j, j ≠ k → (s.busWrite a v).byteAt j = s.byteAt j) ∧
    { s.busWrite a v with mem := s.mem } = s := by
  rw [State.busWrite_some h.store]
  refine ⟨?_, fun j hj => Cells.read_write_other _ _ hj, rfl⟩
  rw [h.read, Cells.read_write_same]

variable (hd : s.dma.active = false)
include hd

theorem State.storeKey_wram (h1 : 0xC000 ≤ a.toNat) (h2 : a.toNat < 0xE000) :
    s.storeKey a = some a.toNat :=
  State.storeKey_free (State.dmaBlocks_idle _ hd) (decodeAddr_wram h1 h2)

theorem State.storeKey_echo (h1 : 0xE000 ≤ a.toNat) (h2 : a.toNat < 0xFE00) :
    s.storeKey a = some (a.toNat - 0x2000) :=
  State.storeKey_free (State.dmaBlocks_idle _ hd) (decodeAddr_echo h1 h2)

theorem State.Cell.wram (h1 : 0xC000 ≤ a.toNat) (h2 : a.toNat < 0xE000) : s.Cell a a a.toNat where
  store := State.storeKey_wram hd h1 h2
  read m := congrArg Prod.fst (State.busRead_wram (s := { s with mem := m }) hd h1 h2)

/-- A byte of WRAM read through its echo (rule R201). -/
theorem State.Cell.wramByEcho (h1 : 0xC000 ≤ a.toNat) (h2 : a.toNat < 0xDE00) :
    s.Cell a (a + 0x2000#16) a.toNat where
  store := State.storeKey_wram hd h1 (by omega)
  read m := by
    have hb : (a + 0x2000#16).toNat = a.toNat + 0x2000 := by bv_omega
    rw [State.busRead_echo (s := { s with mem := m }) hd (by omega) (by omega), hb]
    simp only [State.byteAt, Nat.add_sub_cancel]

theorem State.Cell.echo (h1 : 0xE000 ≤ a.toNat) (h2 : a.toNat < 0xFE00) :
    s.Cell a a (a.toNat - 0x2000) where
  store := State.storeKey_echo hd h1 h2
  read m := congrArg Prod.fst (State.busRead_echo (s := { s with mem := m }) hd h1 h2)

/-- A byte of WRAM written through its echo (rule R201). -/
theorem State.Cell.echoByWram (h1 : 0xE000 ≤ a.toNat) (h2 : a.toNat < 0xFE00) :
    s.Cell a (a - 0x2000#16) (a.toNat - 0x2000) where
  store := State.storeKey_echo hd h1 h2
  read m := by
    have hb : (a - 0x2000#16).toNat = a.toNat - 0x2000 := by bv_omega
    rw [State.busRead_wram (s := { s with mem := m }) hd (by omega) (by omega), hb]
    simp only [State.byteAt]

theorem State.Cell.hram (h1 : 0xFF80 ≤ a.toNat) (h2 : a.toNat < 0xFFFF) : s.Cell a a a.toNat where
  store := State.storeKey_free (State.dmaBlocks_idle _ hd) (decodeAddr_hram h1 h2)
  read m := congrArg Prod.fst (State.busRead_hram (s := { s with mem := m }) hd h1 h2)

theorem State.Cell.vram (h1 : 0x8000 ≤ a.toNat) (h2 : a.toNat < 0xA000)
    (hb : s.ppu.vramBlocked = false) : s.Cell a a a.toNat where
  store := by
    rw [State.storeKey_free (State.dmaBlocks_idle _ hd) (decodeAddr_vram h1 h2)]
    simp [hb]
  read m := by
    rw [State.busRead_vram (s := { s with mem := m }) hd h1 h2]
    simp [hb, State.byteAt]

theorem State.Cell.oam (h1 : 0xFE00 ≤ a.toNat) (h2 : a.toNat < 0xFEA0)
    (hb : s.ppu.oamBlocked = false) : s.Cell a a a.toNat where
  store := by
    rw [State.storeKey_free (State.dmaBlocks_idle _ hd) (decodeAddr_oam h1 h2)]
    simp [hb]
  read m := by
    rw [State.busRead_oam (s := { s with mem := m }) hd h1 h2]
    simp [hb, State.byteAt]

/-- The RAM of a NoMBC cartridge (rule R241). -/
theorem State.Cell.cartRam (h1 : 0xA000 ≤ a.toNat) (h2 : a.toNat < 0xC000)
    (hc : s.cart = .noMbc true) : s.Cell a a a.toNat where
  store := by
    rw [State.storeKey_free (State.dmaBlocks_idle _ hd) (decodeAddr_cartridge (.inr ⟨h1, h2⟩))]
    simp [hc, inCartRam, h1, h2]
  read m := by
    rw [State.busRead_cart (s := { s with mem := m }) hd (.inr ⟨h1, h2⟩),
      State.cartRead_noMbc (s := { s with mem := m }) _ hc]
    simp [State.byteAt]

/-- A write of the unusable range does nothing (rule R211). -/
theorem State.busWrite_unusable (v : Byte) (h1 : 0xFEA0 ≤ a.toNat) (h2 : a.toNat < 0xFF00) :
    s.busWrite a v = s :=
  have hb := State.dmaBlocks_idle a.toNat hd
  have ht := decodeAddr_unusable h1 h2
  State.busWrite_none hb (State.storeKey_free hb ht) ht

/-- A write of a NoMBC cartridge's ROM does nothing (rule R241). -/
theorem State.busWrite_rom (v : Byte) (h1 : a.toNat < 0x8000) {ram : Bool}
    (hc : s.cart = .noMbc ram) : s.busWrite a v = s :=
  (State.busWrite_none (State.dmaBlocks_idle _ hd) (State.storeKey_rom s h1)
    (decodeAddr_cartridge (.inl h1))).trans (State.cartNotify_noMbc _ v hc)

end

/-- Settles O44: each address of the statement is a cell of memory, its own or the one it echoes. -/
theorem memoryWritesReadBack : Obligations.MemoryWritesReadBack := by
  unfold Obligations.MemoryWritesReadBack
  intro a b v s hd n on
  refine ⟨fun h => ?_, State.busWrite_unusable hd v, fun h1 _ => State.busWrite_rom hd v h1⟩
  have hcell : ∃ k, s.Cell a b k ∧ (k = n ∨ 0xE000 ≤ n ∧ n < 0xFE00 ∧ k = n - 0x2000) := by
    obtain ⟨h1, h2, rfl⟩ | ⟨h1, h2, rfl⟩ | ⟨h1, h2, rfl⟩ | ⟨h1, h2, rfl⟩ | ⟨h1, h2, rfl⟩ |
      ⟨h1, h2, rfl, hb⟩ | ⟨h1, h2, rfl, hb⟩ | ⟨h1, h2, rfl, hc⟩ := h
    · exact ⟨_, .wram hd h1 h2, .inl rfl⟩
    · exact ⟨_, .wramByEcho hd h1 h2, .inl rfl⟩
    · exact ⟨_, .echo hd h1 h2, .inr ⟨h1, h2, rfl⟩⟩
    · exact ⟨_, .echoByWram hd h1 h2, .inr ⟨h1, h2, rfl⟩⟩
    · exact ⟨_, .hram hd h1 h2, .inl rfl⟩
    · rw [← Ppu.vramBlocked_iff, Bool.not_eq_true] at hb
      exact ⟨_, .vram hd h1 h2 hb, .inl rfl⟩
    · rw [← Ppu.oamBlocked_iff, Bool.not_eq_true] at hb
      exact ⟨_, .oam hd h1 h2 hb, .inl rfl⟩
    · exact ⟨_, .cartRam hd h1 h2 hc, .inl rfl⟩
  obtain ⟨k, hk, hkn⟩ := hcell
  obtain ⟨hread, hkept, hrest⟩ := hk.write v
  exact ⟨hread, fun j hj hecho => hkept j (by omega), hrest⟩

end Sys2Proof.Machine
end

section
/-! PROOF. The encoding: every complete instruction decodes from its own bytes, and every opcode byte
with its operands decodes to an instruction whose bytes they are (rules R300 to R329). -/

namespace Sys2Proof.Machine

/-! The round trip. -/

/-- Rules R300 to R324 over the forms of `Instr.byShape`: a form's bytes are decoded by computing, but
for a word, which its two halves give back (rule R210). -/
theorem Instr.roundTrip (i : Instr) : Laws.RoundTrip.Statement i := by
  induction i using Instr.byShape with
  | h_ldReg x y | h_aluReg x y | h_rotReg x y => cases x <;> cases y <;> exact fun _ _ => rfl
  | h_bitReg x y | h_resReg x y | h_setReg x y => fin_cases x <;> cases y <;> exact fun _ _ => rfl
  | h_ldRegImm x | h_ldRegAtHl x | h_ldAtHlReg x | h_aluAtHl x | h_aluImm x | h_incReg x | h_decReg x
  | h_addHlPair x | h_incPair x | h_decPair x | h_push x | h_pop x | h_jrCond x | h_retCond x
  | h_rotAtHl x => cases x <;> exact fun _ _ => rfl
  | h_rst x | h_bitAtHl x | h_resAtHl x | h_setAtHl x => fin_cases x <;> exact fun _ _ => rfl
  | h_ldPair x nn =>
    cases x with
    | bc => exact Laws.RoundTrip.ldBcNn nn
    | de => exact Laws.RoundTrip.ldDeNn nn
    | hl => exact Laws.RoundTrip.ldHlNn nn
    | sp => exact Laws.RoundTrip.ldSpNn nn
  | h_jpCond x nn =>
    cases x with
    | nz => exact Laws.RoundTrip.jpNzNn nn
    | z => exact Laws.RoundTrip.jpZNn nn
    | nc => exact Laws.RoundTrip.jpNcNn nn
    | c => exact Laws.RoundTrip.jpCNn nn
  | h_callCond x nn =>
    cases x with
    | nz => exact Laws.RoundTrip.callNzNn nn
    | z => exact Laws.RoundTrip.callZNn nn
    | nc => exact Laws.RoundTrip.callNcNn nn
    | c => exact Laws.RoundTrip.callCNn nn
  | h_ldAtNnSp nn => exact Laws.RoundTrip.ldAtNnSp nn
  | h_ldAtNnA nn => exact Laws.RoundTrip.ldAtNnA nn
  | h_ldAAtNn nn => exact Laws.RoundTrip.ldAAtNn nn
  | h_jpNn nn => exact Laws.RoundTrip.jpNn nn
  | h_callNn nn => exact Laws.RoundTrip.callNn nn
  | h_prefixCb => exact Laws.RoundTrip.prefixCb
  | _ => exact fun _ _ => rfl

/-- Settles O38: each form of instruction decodes from its bytes. -/
theorem decodeEncode : Obligations.DecodeEncode := by
  unfold Obligations.DecodeEncode
  exact Instr.roundTrip

/-! The bytes of what was decoded. -/

/-- What the decoder owes an opcode byte with the operand bytes of `nn` after it: a complete instruction,
encoded by the bytes its format has (rule R300), and illegal when the byte is (rule R327). -/
structure IsRow (op : Byte) (nn : Word) (i : Instr) : Prop where
  complete : i.wellFormed = true
  bytes : encode i = op :: [nn.lo, nn.hi].take (operandBytes op)
  legal : i.legal = decide (op ∉ illegalBytes)

/-- An opcode byte from its three fields (rule R301). -/
def byteOfFields (x : Fin 4) (y z : Fin 8) : Byte := BitVec.ofNat 8 (64 * x.val + 8 * y.val + z.val)

theorem byteOfFields_fields (op : Byte) : byteOfFields (fieldX op) (fieldY op) (fieldZ op) = op :=
  (fields_eq op).symm

theorem isRow_decodeX0 {y z : Fin 8} (nn : Word) (h : ¬(y = 2 ∧ z = 0)) :
    IsRow (byteOfFields 0 y z) nn (decodeX0 y z nn.lo nn) := by
  fin_cases z <;> fin_cases y
  on_goal 3 => exact absurd ⟨rfl, rfl⟩ h -- z = 0, y = 2
  all_goals exact ⟨rfl, rfl, rfl⟩

theorem isRow_decodeX1 (y z : Fin 8) (nn : Word) : IsRow (byteOfFields 1 y z) nn (decodeX1 y z) := by
  fin_cases z <;> fin_cases y <;> exact ⟨rfl, rfl, rfl⟩

theorem isRow_decodeX2 (y z : Fin 8) (nn : Word) : IsRow (byteOfFields 2 y z) nn (decodeX2 y z) := by
  fin_cases z <;> fin_cases y <;> exact ⟨rfl, rfl, rfl⟩

theorem isRow_decodeX3 {y z : Fin 8} (nn : Word) (h : ¬(y = 1 ∧ z = 3)) :
    IsRow (byteOfFields 3 y z) nn (decodeX3 y z nn.lo nn) := by
  fin_cases z <;> fin_cases y
  on_goal 26 => exact absurd ⟨rfl, rfl⟩ h -- z = 3, y = 1
  all_goals exact ⟨rfl, rfl, rfl⟩

/-- Any second byte selects a complete and legal CB row, encoded by 0xCB and that byte (rule R324). -/
theorem decodeCb_row (x : Fin 4) (y z : Fin 8) :
    let b := byteOfFields x y z
    (decodeCb b).wellFormed = true ∧ encode (decodeCb b) = [0xCB#8, b] ∧ (decodeCb b).legal = true := by
  fin_cases x <;> fin_cases z <;> fin_cases y <;> exact ⟨rfl, rfl, rfl⟩

theorem isRow_decodeCb (nn : Word) : IsRow 0xCB#8 nn (decodeCb nn.lo) := by
  obtain ⟨hcomplete, hbytes, hlegal⟩ := decodeCb_row (fieldX nn.lo) (fieldY nn.lo) (fieldZ nn.lo)
  rw [byteOfFields_fields] at hcomplete hbytes hlegal
  exact ⟨hcomplete, hbytes, hlegal⟩

theorem isRow_decodePrimary {op : Byte} (nn : Word) (hstop : op ≠ 0x10#8) (hcb : op ≠ 0xCB#8) :
    IsRow op nn (decodePrimary op nn.lo nn) := by
  have hop := byteOfFields_fields op
  unfold decodePrimary
  generalize fieldX op = x, fieldY op = y, fieldZ op = z at hop
  subst hop
  match x with
  | 0 => exact isRow_decodeX0 nn (by rintro ⟨rfl, rfl⟩; exact hstop rfl)
  | 1 => exact isRow_decodeX1 y z nn
  | 2 => exact isRow_decodeX2 y z nn
  | 3 => exact isRow_decodeX3 nn (by rintro ⟨rfl, rfl⟩; exact hcb rfl)

theorem isRow_decodeOp {op : Byte} (nn : Word) (hstop : op ≠ 0x10#8) :
    IsRow op nn (decodeOp op nn.lo nn.hi) := by
  unfold decodeOp
  rw [Word.ofBytes_halves]
  split
  · next hcb => exact hcb ▸ isRow_decodeCb nn
  · next hcb => exact isRow_decodePrimary nn hstop hcb

/-- But for STOP's, the bytes decoded are those of the instruction and the ones after it (rules R300, R321). -/
theorem encode_decodeOp {op : Byte} (nn : Word) (hstop : op ≠ 0x10#8) :
    encode (decodeOp op nn.lo nn.hi) ++ [nn.lo, nn.hi].drop (operandBytes op) = [op, nn.lo, nn.hi] := by
  rw [(isRow_decodeOp nn hstop).bytes, List.cons_append, List.take_append_drop]

/-- Settles O39: the instruction of the three bytes is encoded by the first of them, so O38 decodes it. -/
theorem encodeDecode : Obligations.EncodeDecode := by
  unfold Obligations.EncodeDecode
  intro op b1 b2 rest
  by_cases hstop : op = 0x10#8
  · subst hstop
    exact ⟨.stop, [b2], rfl, rfl, fun h => absurd rfl h, fun _ => ⟨rfl, rfl⟩, by decide⟩
  · obtain ⟨nn, rfl, rfl⟩ : ∃ nn : Word, nn.lo = b1 ∧ nn.hi = b2 :=
      ⟨Word.ofBytes b2 b1, Word.lo_ofBytes b2 b1, Word.hi_ofBytes b2 b1⟩
    have hrow := isRow_decodeOp nn hstop
    have hbytes := encode_decodeOp nn hstop
    have hdecode := decodeEncode _ hrow.complete ([nn.lo, nn.hi].drop (operandBytes op) ++ rest)
    rw [← List.append_assoc, hbytes] at hdecode
    exact ⟨_, _, hdecode, hrow.complete, fun _ => hbytes, fun h => absurd h hstop, by simp [hrow.legal]⟩

/-- A row's bytes, with none after them, decode to it. -/
theorem decode_of_encode {i : Instr} {bytes : List Byte} (hw : i.wellFormed = true)
    (he : encode i = bytes) : decode bytes = .ok i [] := by
  rw [← he, ← List.append_nil (encode i)]
  exact decodeEncode i hw []

/-- Settles O40: each word is the encoding of its row. -/
theorem tableWords : Obligations.TableWords := by
  unfold Obligations.TableWords
  and_intros <;> exact decode_of_encode rfl rfl

end Sys2Proof.Machine
end

section
/-! PROOF. The fetch, the instruction it decodes, and the lock of an illegal one (rules R108, R320, R322,
R327, R606, R710, R730). -/

namespace Sys2Proof.Machine

/-! The fetch and the step. -/

/-- Settles O32: the fetch is a read at PC, and what it does to the CPU then. -/
theorem opcodeFetch : Obligations.OpcodeFetch := by
  unfold Obligations.OpcodeFetch
  intro s
  refine ⟨rfl, ?_, State.sameUnits_onCpu _ _, s.fetchOpcode_clock, (s.memRead_frame _).onCpu _⟩
  rw [State.fetchOpcode_eq, State.onCpu_cpu, State.mCycle_cpu, State.busRead_cpu]
  rfl

/-- An operand byte the format has not is 00 (rule R300). -/
theorem State.fetchOperands_absent {n : Nat} (hn : n = 0 ∨ n = 1 ∨ n = 2) (s : State) :
    (if n = 0 then 0x00#8 else (s.fetchOperands n).1.1) = (s.fetchOperands n).1.1 ∧
      (if n = 2 then (s.fetchOperands n).1.2 else 0x00#8) = (s.fetchOperands n).1.2 := by
  rcases hn with rfl | rfl | rfl <;> exact ⟨rfl, rfl⟩

/-- What the bytes fetched decode to is the instruction of the fetch. -/
theorem State.fetch_of_decode {s : State} {i : Instr} {rest : List Byte} :
    let op := s.fetchOpcode
    let bs := op.2.fetchOperands (operandBytes op.1)
    decode [op.1, bs.1.1, bs.1.2] = .ok i rest → s.fetch = (i, bs.2) := by
  intro op bs hd
  obtain ⟨h1, h2⟩ := State.fetchOperands_absent (operandBytes_cases op.1) op.2
  rw [decode_three hd, h1, h2]
  rfl

/-- Settles O33: the step runs what its fetch gives, which is what the bytes fetched decode to. -/
theorem stepRunsDecoded : Obligations.StepRunsDecoded := by
  unfold Obligations.StepRunsDecoded
  intro s i rest hin hh hs hl op bs hd _ t he
  rw [step_of_running hin hh hs hl]
  exact State.runInstruction_of_exec (State.fetch_of_decode hd) he

/-! The lock. -/

theorem State.interruptCheck_of_locked {s : State} (h : s.cpu.locked = true) :
    s.interruptCheck = s := by
  simp [State.interruptCheck, h]

/-- A LOCKED CPU's step is the fault, with no host input (rule R730). -/
theorem step_of_locked {s : State} (hin : s.hostInputs = []) (hl : s.cpu.locked = true) :
    step s = .fault (.illegalOpcode s.cpu.pc s.cpu.illegalByte) := by
  unfold step
  rw [State.takeInput_of_none hin]
  exact if_pos hl

/-- Settles O29: each of the eleven is its one byte and raises the exception, which locks the CPU. -/
theorem illegalOpcodeLocks : Obligations.IllegalOpcodeLocks := by
  unfold Obligations.IllegalOpcodeLocks
  intro s x hx
  have hrow : x.1.wellFormed = true ∧ encode x.1 = [x.2] ∧ x.1.fetches = 1 ∧
      exec x.1 s = .next (s.raiseIllegal x.2) := by
    fin_cases hx <;> exact ⟨rfl, rfl, rfl, rfl⟩
  obtain ⟨hw, hbytes, hfetches, hexec⟩ := hrow
  have htakes : Takes 4 x.1 s (s.raiseIllegal x.2) := by rw [Takes, hfetches]; rfl
  exact ⟨⟨hbytes, hbytes ▸ decodeEncode x.1 hw⟩, _, hexec, htakes, State.sameUnits_onCpu _ s, rfl,
    State.interruptCheck_of_locked rfl, fun hin => step_of_locked hin rfl⟩

end Sys2Proof.Machine
end

section
/-! PROOF. The 8-bit loads (file 40_load8.md, rules R401 to R419): a register written with the CPU's rest
kept, one read or one write at the operand's address, and HL stepped after it. -/

namespace Sys2Proof.Machine

/-! The bytes of a row. -/

/-- A complete instruction whose bytes are these, each one fetched (rules R300, R321). -/
structure HasBytes (i : Instr) (bytes : List Byte) : Prop where
  complete : i.wellFormed = true
  encode_eq : encode i = bytes
  fetches : i.fetches = bytes.length

theorem HasBytes.encoded {i : Instr} {bytes : List Byte} (h : HasBytes i bytes) :
    Encoded i bytes :=
  ⟨h.encode_eq, h.encode_eq ▸ decodeEncode i h.complete⟩

/-- The T-cycles are those of the operation and four for each byte (rule R941). -/
theorem HasBytes.takes {i : Instr} {bytes : List Byte} (h : HasBytes i bytes) {n k : Nat}
    {s t : State} (ht : t.clock = s.clock + k) (hn : k + 4 * bytes.length = n) : Takes n i s t :=
  takes_of h.fetches ht hn

theorem hasBytes_ldReg (x y : Reg8) :
    HasBytes (Instr.ldReg x y) [opByte (0x40 + 8 * x.code + y.code)] := by
  cases x <;> cases y <;> exact ⟨rfl, rfl, rfl⟩

theorem hasBytes_ldRegImm (x : Reg8) (n : Byte) :
    HasBytes (Instr.ldRegImm x n) [opByte (0x06 + 8 * x.code), n] := by
  cases x <;> exact ⟨rfl, rfl, rfl⟩

theorem hasBytes_ldRegAtHl (x : Reg8) :
    HasBytes (Instr.ldRegAtHl x) [opByte (0x46 + 8 * x.code)] := by
  cases x <;> exact ⟨rfl, rfl, rfl⟩

theorem hasBytes_ldAtHlReg (x : Reg8) :
    HasBytes (Instr.ldAtHlReg x) [opByte (0x70 + x.code)] := by
  cases x <;> exact ⟨rfl, rfl, rfl⟩

/-! The CPU's rest. -/

theorem Cpu.set_rest (r : Reg8) (v : Byte) (c : Cpu) : Cpu.Rest [r] c (c.set r v) where
  regs q hq := Cpu.get_set_ne (List.ne_of_not_mem_cons hq) v c
  sp := Cpu.set_sp r v c
  pc := Cpu.set_pc r v c
  control := by constructor <;> simp

theorem Cpu.setHl_rest (v : Word) (c : Cpu) : Cpu.Rest [.h, .l] c (c.setHl v) where
  regs q hq := by
    cases q with
    | h | l => simp at hq
    | _ => rfl
  sp := rfl
  pc := rfl
  control := ⟨rfl, rfl, rfl, rfl, rfl, rfl, rfl, rfl⟩

theorem Cpu.Rest.trans {xs ys : List Reg8} {a b c : Cpu} (h : Cpu.Rest xs a b)
    (h' : Cpu.Rest ys b c) : Cpu.Rest (xs ++ ys) a c where
  regs r hr := by
    obtain ⟨hx, hy⟩ := not_or.mp (mt List.mem_append.mpr hr)
    exact (h'.regs r hy).trans (h.regs r hx)
  sp := h'.sp.trans h.sp
  pc := h'.pc.trans h.pc
  control := h.control.trans h'.control

theorem State.SameUnits.onCpu {u t : State} (h : State.SameUnits u t) (f : Cpu → Cpu) :
    State.SameUnits u (t.onCpu f) := h

/-! The loads. -/

/-- A load of a value the CPU has at hand changes the register alone (rules R401, R402). -/
theorem exec_onCpu_set {i : Instr} {bytes : List Byte} {dst : Reg8} {v : Byte} {n : Nat} {s : State}
    (hi : HasBytes i bytes) (hn : 4 * bytes.length = n)
    (he : exec i s = .next (s.onCpu (Cpu.set dst v))) :
    Encoded i bytes ∧ ∃ t, exec i s = .next t ∧ Takes n i s t ∧ t.cpu.get dst = v ∧
      Cpu.Rest [dst] s.cpu t.cpu ∧ t.cpu.f = s.cpu.f ∧ State.SameUnits s t :=
  ⟨hi.encoded, _, he, hi.takes (k := 0) rfl (by omega), Cpu.get_set_same dst v s.cpu,
    Cpu.set_rest dst v s.cpu, Cpu.set_f dst v s.cpu, State.sameUnits_onCpu _ s⟩

/-- Settles O1: every source is a value at hand, so the register alone is written. -/
theorem loadRegister : Obligations.LoadRegister := by
  unfold Obligations.LoadRegister
  exact ⟨fun dst src s => exec_onCpu_set (hasBytes_ldReg dst src) rfl (exec_ldReg dst src s),
    fun dst n s => exec_onCpu_set (hasBytes_ldRegImm dst n) rfl (exec_ldRegImm dst n s)⟩

/-- The address of `LDH (C)` (rules R412, R413). -/
theorem Place.highC_addr (c : Cpu) : Place.highC.addr c = 0xFF00#16 + c.c.setWidth 16 :=
  Word.high_page c.c

/-- The address of `LDH (n)` (rules R414, R415). -/
theorem Place.high_addr (n : Byte) (c : Cpu) : (Place.high n).addr c = 0xFF00#16 + n.setWidth 16 :=
  Word.high_page n

/-- The M-cycle of the read keeps the CPU, so the register written is the only change to it. -/
theorem loadsByte_of_memRead {i : Instr} {bytes : List Byte} {dst : Reg8} {a : Word} {n : Nat}
    {s : State} (hi : HasBytes i bytes) (hn : 4 + 4 * bytes.length = n)
    (he : exec i s = .next ((s.memRead a).2.onCpu (Cpu.set dst (s.memRead a).1))) :
    LoadsByte i bytes dst a n s := by
  refine ⟨hi.encoded, _, he, hi.takes (s.memRead_clock a) hn, Cpu.get_set_same dst _ _, ?_, ?_,
    State.sameUnits_onCpu _ (s.memRead a).2, (s.memRead_frame a).onCpu _⟩
  · rw [State.onCpu_cpu, State.memRead_cpu]
    exact Cpu.set_rest dst _ s.cpu
  · rw [State.onCpu_cpu, State.memRead_cpu]
    exact Cpu.set_f dst _ s.cpu

theorem loadsByte_of_loadA {i : Instr} {bytes : List Byte} {x : Place} {a : Word} {n : Nat}
    {s : State} (hi : HasBytes i bytes) (hn : 4 + 4 * bytes.length = n) (ha : x.addr s.cpu = a)
    (he : exec i s = .next (loadA x s)) : LoadsByte i bytes .a a n s :=
  ha ▸ loadsByte_of_memRead hi hn he

/-- Settles O2: each form is one read at its operand's address and one register written. -/
theorem loadRegisterFromMemory : Obligations.LoadRegisterFromMemory := by
  unfold Obligations.LoadRegisterFromMemory
  intro dst n nn s
  exact ⟨loadsByte_of_memRead (hasBytes_ldRegAtHl dst) rfl (exec_ldRegAtHl dst s),
    loadsByte_of_loadA (x := .bc) ⟨rfl, rfl, rfl⟩ rfl rfl rfl,
    loadsByte_of_loadA (x := .de) ⟨rfl, rfl, rfl⟩ rfl rfl rfl,
    loadsByte_of_loadA (x := .nn nn) ⟨rfl, rfl, rfl⟩ rfl rfl rfl,
    loadsByte_of_loadA (x := .highC) ⟨rfl, rfl, rfl⟩ rfl (Place.highC_addr s.cpu) rfl,
    loadsByte_of_loadA (x := .high n) ⟨rfl, rfl, rfl⟩ rfl (Place.high_addr n s.cpu) rfl⟩

/-! The stores. -/

theorem State.sameUnits_refl (s : State) : State.SameUnits s s := rfl

theorem storesByte_of_store {i : Instr} {bytes : List Byte} {x : Place} {a : Word} {v : Byte} {n : Nat}
    {s : State} (hi : HasBytes i bytes) (hn : 4 + 4 * bytes.length = n) (ha : x.addr s.cpu = a)
    (he : exec i s = .next (store x v s)) : StoresByte i bytes a v n s := by
  subst ha
  exact ⟨hi.encoded, _, he, hi.takes (s.memWrite_clock _ v) hn, s.memWrite_cpu _ v,
    State.sameUnits_refl (s.memWrite _ v), s.memWrite_stores _ v⟩

/-- Settles O3: each form is one write at its operand's address. -/
theorem storeByte : Obligations.StoreByte := by
  unfold Obligations.StoreByte
  intro src n nn s
  exact ⟨storesByte_of_store (x := .hl) (hasBytes_ldAtHlReg src) rfl rfl (exec_ldAtHlReg src s),
    storesByte_of_store (x := .hl) ⟨rfl, rfl, rfl⟩ rfl rfl rfl,
    storesByte_of_store (x := .bc) ⟨rfl, rfl, rfl⟩ rfl rfl rfl,
    storesByte_of_store (x := .de) ⟨rfl, rfl, rfl⟩ rfl rfl rfl,
    storesByte_of_store (x := .nn nn) ⟨rfl, rfl, rfl⟩ rfl rfl rfl,
    storesByte_of_store (x := .highC) ⟨rfl, rfl, rfl⟩ rfl (Place.highC_addr s.cpu) rfl,
    storesByte_of_store (x := .high n) ⟨rfl, rfl, rfl⟩ rfl (Place.high_addr n s.cpu) rfl⟩

/-! The transfers that step HL. -/

theorem loadAStep_cpu (d : Word) (s : State) :
    (loadAStep d s).cpu = (s.cpu.set .a (s.busRead s.cpu.hl).1).setHl (s.cpu.hl + d) := by
  simp only [loadAStep, loadA, Place.addr, State.onCpu_cpu, State.memRead_cpu, State.memRead_fst]
  rfl

theorem storeAStep_cpu (d : Word) (s : State) :
    (storeAStep d s).cpu = s.cpu.setHl (s.cpu.hl + d) := by
  simp only [storeAStep, store, Place.addr, State.onCpu_cpu, State.memWrite_cpu]

theorem loadsAndSteps_of_loadAStep {i : Instr} {op : Byte} {d : Word} {s : State}
    (hi : HasBytes i [op]) (he : exec i s = .next (loadAStep d s)) : LoadsAndSteps i [op] d s := by
  have hcpu := loadAStep_cpu d s
  refine ⟨hi.encoded, _, he, hi.takes (s.memRead_clock s.cpu.hl) rfl, ?_, ?_, ?_, ?_,
    (State.sameUnits_onCpu _ (s.memRead s.cpu.hl).2).onCpu _,
    ((s.memRead_frame s.cpu.hl).onCpu _).onCpu _⟩
  · rw [hcpu, Cpu.setHl_a]; rfl
  · rw [hcpu, Cpu.hl_setHl]
  · rw [hcpu]
    exact (Cpu.set_rest .a _ s.cpu).trans (Cpu.setHl_rest _ _)
  · rw [hcpu, Cpu.setHl_f, Cpu.set_f]

theorem storesAndSteps_of_storeAStep {i : Instr} {op : Byte} {d : Word} {s : State}
    (hi : HasBytes i [op]) (he : exec i s = .next (storeAStep d s)) : StoresAndSteps i [op] d s := by
  have hcpu := storeAStep_cpu d s
  refine ⟨hi.encoded, _, he, hi.takes (s.memWrite_clock s.cpu.hl s.cpu.a) rfl, ?_, ?_, ?_,
    State.sameUnits_onCpu _ (s.memWrite s.cpu.hl s.cpu.a),
    (s.memWrite_stores s.cpu.hl s.cpu.a).onCpu _⟩
  · rw [hcpu, Cpu.hl_setHl]
  · rw [hcpu]
    exact Cpu.setHl_rest _ s.cpu
  · rw [hcpu, Cpu.setHl_f]

/-- Settles O4: the transfer at HL, then HL written with its sum with 1 or with 0xFFFF, which is -1. -/
theorem transferAccumulatorAndStep : Obligations.TransferAccumulatorAndStep := by
  unfold Obligations.TransferAccumulatorAndStep
  exact ⟨fun _ => ⟨loadsAndSteps_of_loadAStep ⟨rfl, rfl, rfl⟩ rfl,
      loadsAndSteps_of_loadAStep ⟨rfl, rfl, rfl⟩ rfl⟩,
    fun _ => ⟨storesAndSteps_of_storeAStep ⟨rfl, rfl, rfl⟩ rfl,
      storesAndSteps_of_storeAStep ⟨rfl, rfl, rfl⟩ rfl⟩⟩

end Sys2Proof.Machine
end

section
/-! PROOF. The 16-bit loads and the stack (file 41_load16.md, rules R431 to R437), and ADD SP,e (rule R504):
each instruction is its M-cycles with one update of the CPU, so the units are as the M-cycles leave them, and
the rest is what the update does to the registers. -/

namespace Sys2Proof.Machine

/-! The bytes of a row. -/

theorem hasBytes_ldPair (p : Pair) (nn : Word) :
    HasBytes (Instr.ldPair p nn) [opByte (0x01 + 16 * p.code), nn.lo, nn.hi] := by
  cases p <;> exact ⟨rfl, rfl, rfl⟩

theorem hasBytes_push (r : StackPair) :
    HasBytes (Instr.push r) [opByte (0xC5 + 16 * r.code)] := by
  cases r <;> exact ⟨rfl, rfl, rfl⟩

theorem hasBytes_pop (r : StackPair) :
    HasBytes (Instr.pop r) [opByte (0xC1 + 16 * r.code)] := by
  cases r <;> exact ⟨rfl, rfl, rfl⟩

/-! The pairs. -/

theorem Cpu.getPair_setPair_ne {p q : Pair} (h : q ≠ p) (v : Word) (c : Cpu) :
    (c.setPair p v).getPair q = c.getPair q := by
  cases p <;> cases q <;> trivial

theorem Cpu.getStack_setStack_ne {r q : StackPair} (h : q ≠ r) (v : Word) (c : Cpu) :
    (c.setStack r v).getStack q = c.getStack q := by
  cases r <;> cases q <;> trivial

theorem Cpu.getStack_setStack {r : StackPair} (h : r ≠ .af) (v : Word) (c : Cpu) :
    (c.setStack r v).getStack r = v := by
  cases r with
  | af => exact absurd rfl h
  | bc | de | hl => exact Word.ofBytes_halves v

/-- The high byte is kept whole in every pair; only AF's low byte is masked (rule R436). -/
theorem Cpu.hi_getStack_setStack (r : StackPair) (v : Word) (c : Cpu) :
    ((c.setStack r v).getStack r).hi = v.hi := by
  cases r <;> exact Word.hi_ofBytes v.hi _

theorem Cpu.setStack_a {r : StackPair} (h : r ≠ .af) (v : Word) (c : Cpu) :
    (c.setStack r v).a = c.a := by
  cases r <;> trivial

theorem Cpu.setStack_f {r : StackPair} (h : r ≠ .af) (v : Word) (c : Cpu) :
    (c.setStack r v).f = c.f := by
  cases r <;> trivial

/-! SP. -/

theorem Cpu.getStack_setSp (q : StackPair) (v : Word) (c : Cpu) :
    Cpu.getStack q { c with sp := v } = c.getStack q := by
  cases q <;> rfl

theorem Cpu.keptBut_setSp (v : Word) (c : Cpu) : Cpu.KeptBut [] c { c with sp := v } := by
  intro r _
  cases r <;> rfl

/-! The displacement's flags. -/

/-- The flags are F's alone. -/
theorem Cpu.Flags.of_f_eq {z n h cy : Bool} {c d : Cpu} (hc : c.Flags z n h cy) (hf : d.f = c.f) :
    d.Flags z n h cy where
  z := (congrArg (BitVec.getLsbD · 7) hf).trans hc.z
  n := (congrArg (BitVec.getLsbD · 6) hf).trans hc.n
  h := (congrArg (BitVec.getLsbD · 5) hf).trans hc.h
  cy := (congrArg (BitVec.getLsbD · 4) hf).trans hc.cy
  low := (congrArg (· &&& 0x0F#8) hf).trans hc.low

theorem Cpu.offsetFlags_rest (e : Byte) (c : Cpu) : Cpu.Rest [] c (c.offsetFlags e) where
  regs r _ := Cpu.get_offsetFlags e r c
  sp := Cpu.offsetFlags_sp e c
  pc := Cpu.offsetFlags_pc e c
  control := (Cpu.plain_offsetFlags e c).control

/-- The carries are those of SP's low byte and the raw byte, as SP's own remainders (rules R437, R504). -/
theorem Cpu.flags_offsetFlags (e : Byte) (c : Cpu) :
    Cpu.Flags false false (decide (15 < c.sp.toNat % 16 + e.toNat % 16))
      (decide (255 < c.sp.toNat % 256 + e.toNat)) (c.offsetFlags e) := by
  have half : carry4 c.sp.lo e false = decide (15 < c.sp.toNat % 16 + e.toNat % 16) := by
    rw [carry4, Word.toNat_lo, Nat.mod_mod_of_dvd _ (by decide : 16 ∣ 256)]
    rfl
  have full : carry8 c.sp.lo e false = decide (255 < c.sp.toNat % 256 + e.toNat) := by
    rw [carry8, Word.toNat_lo]
    rfl
  exact (Cpu.flags_setFlags false false _ _ c).congr rfl rfl half full

/-! The word popped. -/

theorem State.popWord_hi (s : State) :
    s.popWord.1.hi = ((s.memRead s.cpu.sp).2.memRead (s.cpu.sp + 1#16)).1 := by
  rw [State.popWord_eq, Word.hi_ofBytes]

theorem State.popWord_lo (s : State) : s.popWord.1.lo = (s.memRead s.cpu.sp).1 := by
  rw [State.popWord_eq, Word.lo_ofBytes]

theorem State.popWord_cpu (s : State) : s.popWord.2.cpu = { s.cpu with sp := s.cpu.sp + 2#16 } := by
  rw [State.popWord_eq, State.onCpu_cpu, State.memRead_cpu, State.memRead_cpu]

theorem State.popWord_sameUnits (s : State) :
    State.SameUnits ((s.memRead s.cpu.sp).2.memRead (s.cpu.sp + 1#16)).2 s.popWord.2 := by
  rw [State.popWord_eq]
  exact State.sameUnits_onCpu _ _

theorem State.popWord_frame (s : State) : Frame s s.popWord.2 := by
  have reads := (s.memRead_frame s.cpu.sp).trans (State.memRead_frame (s.cpu.sp + 1#16) _)
  rw [State.popWord_eq]
  exact reads.onCpu (fun c => { c with sp := c.sp + 2#16 })

/-! The instructions as their M-cycles and then their update of the CPU. -/

theorem exec_ldSpHl_eq (s : State) :
    exec .ldSpHl s = .next (s.internal.onCpu (fun c => { c with sp := c.hl })) :=
  congrArg Host.Outcome.next (State.internal_onCpu _ s)

theorem exec_ldHlSpOff_eq (e : Byte) (s : State) :
    exec (.ldHlSpOff e) s =
      .next (s.internal.onCpu (fun c => (c.offsetFlags e).setHl (c.sp + Word.sext e))) := by
  have h : loadHlSp e s =
      s.internal.onCpu (fun c => (c.offsetFlags e).setHl (c.sp + Word.sext e)) := by
    simp only [loadHlSp, State.internal_onCpu, State.onCpu_onCpu, Cpu.offsetFlags_sp]
  exact congrArg Host.Outcome.next h

theorem exec_addSpOff_eq (e : Byte) (s : State) :
    exec (.addSpOff e) s =
      .next (s.internal.internal.onCpu
        (fun c => { c.offsetFlags e with sp := c.sp + Word.sext e })) := by
  have h : addSp e s = s.internal.internal.onCpu
      (fun c => { c.offsetFlags e with sp := c.sp + Word.sext e }) := by
    simp only [addSp, State.internal_onCpu, State.onCpu_onCpu, Cpu.offsetFlags_sp]
  exact congrArg Host.Outcome.next h

/-- The idle M-cycle keeps the CPU, so the addresses and the word are those of the state before it. -/
theorem push_eq (r : StackPair) (s : State) :
    push r s =
      ((s.mCycle.memWrite (s.cpu.sp - 1#16) (s.cpu.getStack r).hi).memWrite (s.cpu.sp - 2#16)
        (s.cpu.getStack r).lo).onCpu (fun c => { c with sp := c.sp - 2#16 }) := by
  rw [push, State.pushWord_eq, State.internal_cpu]
  rfl

theorem pop_cpu (r : StackPair) (s : State) :
    (pop r s).cpu = Cpu.setStack r s.popWord.1 { s.cpu with sp := s.cpu.sp + 2#16 } := by
  rw [pop, State.onCpu_cpu, State.popWord_cpu]

/-! The obligations. -/

/-- Settles O6: two writes, and no update of the CPU. -/
theorem storeStackPointer : Obligations.StoreStackPointer := by
  unfold Obligations.StoreStackPointer
  intro nn s
  have hi : HasBytes (.ldAtNnSp nn) [0x08#8, nn.lo, nn.hi] := ⟨rfl, rfl, rfl⟩
  refine ⟨hi.encoded, storeSp nn s, rfl, ?_, ?_, State.sameUnits_refl _,
    s.memWrite_storesTwo nn _ _ _⟩
  · exact hi.takes (k := 8) (by simp [storeSp]) rfl
  · rw [storeSp, State.memWrite_cpu, State.memWrite_cpu]

/-- Settles O7: F, and HL or SP, written after the M-cycles; `Word.add_sext` makes the sum signed. -/
theorem stackPointerPlusDisplacement : Obligations.StackPointerPlusDisplacement := by
  unfold Obligations.StackPointerPlusDisplacement
  intro e s
  have rest := Cpu.offsetFlags_rest e s.cpu
  have flags := Cpu.flags_offsetFlags e s.cpu
  constructor
  · have hi : HasBytes (.ldHlSpOff e) [0xF8#8, e] := ⟨rfl, rfl, rfl⟩
    refine ⟨hi.encoded, _, exec_ldHlSpOff_eq e s, hi.takes (k := 4) s.internal_clock rfl, ?_⟩
    rw [State.onCpu_cpu, State.internal_cpu, Word.add_sext]
    exact ⟨Cpu.hl_setHl _ _, rest.trans (Cpu.setHl_rest _ _), flags.of_f_eq (Cpu.setHl_f _ _),
      State.sameUnits_onCpu _ s.internal, s.internal_frame.onCpu _⟩
  · have hi : HasBytes (.addSpOff e) [0xE8#8, e] := ⟨rfl, rfl, rfl⟩
    refine ⟨hi.encoded, _, exec_addSpOff_eq e s, hi.takes (k := 8) (by simp) rfl, ?_⟩
    rw [State.onCpu_cpu, State.internal_cpu, State.internal_cpu, Word.add_sext]
    have regs := Cpu.keptBut_setSp (BitVec.ofInt 16 (s.cpu.sp.toNat + e.toInt)) (s.cpu.offsetFlags e)
    exact ⟨rfl, fun r hr => (regs r hr).trans (rest.regs r hr), rest.pc,
      rest.control.trans (Cpu.plain_setSp _ _).control, flags.of_f_eq rfl,
      State.sameUnits_onCpu _ s.internal.internal,
      (s.internal_frame.trans s.internal.internal_frame).onCpu _⟩

/-- Settles O8: two writes after the idle M-cycle; F is masked where AF is read (rule R106). -/
theorem pushPair : Obligations.PushPair := by
  unfold Obligations.PushPair
  intro r s
  refine ⟨(hasBytes_push r).encoded, Word.hi_ofBytes _ _, Word.lo_ofBytes _ _, push r s,
    exec_push r s, (hasBytes_push r).takes (k := 12) (by simp [push]) rfl, ?_⟩
  rw [push_eq]
  refine ⟨?_, State.sameUnits_onCpu _ _, (s.mCycle.memWrite_storesTwo _ _ _ _).onCpu _⟩
  rw [State.onCpu_cpu, State.memWrite_cpu, State.memWrite_cpu, State.mCycle_cpu]

/-- Settles O9: the two reads are `popWord`'s, and the pair is written with the word they give. -/
theorem popPair : Obligations.PopPair := by
  unfold Obligations.PopPair
  intro r s
  refine ⟨(hasBytes_pop r).encoded, pop r s, exec_pop r s,
    (hasBytes_pop r).takes (k := 8) (by simp [pop]) rfl, ?_⟩
  rw [pop_cpu, ← State.popWord_hi, ← State.popWord_lo]
  refine ⟨Cpu.hi_getStack_setStack r _ _, fun hr => ?_, ?_, fun hr => ?_, fun q hq => ?_,
    Cpu.setStack_sp r _ _, Cpu.setStack_pc r _ _, ?_, s.popWord_sameUnits.onCpu _,
    s.popWord_frame.onCpu _⟩
  · rw [Cpu.getStack_setStack hr]
  · rintro rfl
    rfl
  · exact ⟨Cpu.setStack_a hr _ _, Cpu.setStack_f hr _ _⟩
  · rw [Cpu.getStack_setStack_ne hq, Cpu.getStack_setSp]
  · exact ((Cpu.plain_setSp _ s.cpu).trans (Cpu.plain_setStack r _ _)).control

end Sys2Proof.Machine

namespace Sys2Proof

open Machine

/-- Settles O5: a pair written keeps the other pairs, and SP written keeps every other register. It stands
outside `Machine`, where `loadPair` is the operation. -/
theorem loadPair : Obligations.LoadPair := by
  unfold Obligations.LoadPair
  constructor
  · intro p nn s
    exact ⟨(hasBytes_ldPair p nn).encoded, _, exec_ldPair p nn s,
      (hasBytes_ldPair p nn).takes (k := 0) rfl rfl, Cpu.getPair_setPair p nn s.cpu,
      fun q hq => Cpu.getPair_setPair_ne hq nn s.cpu, Cpu.setPair_a p nn s.cpu,
      Cpu.setPair_f p nn s.cpu, Cpu.setPair_pc p nn s.cpu, (Cpu.plain_setPair p nn s.cpu).control,
      State.sameUnits_onCpu _ s⟩
  · intro s
    have hi : HasBytes .ldSpHl [0xF9#8] := ⟨rfl, rfl, rfl⟩
    refine ⟨hi.encoded, _, exec_ldSpHl_eq s, hi.takes (k := 4) s.internal_clock rfl, ?_⟩
    rw [State.onCpu_cpu, State.internal_cpu]
    exact ⟨rfl, Cpu.keptBut_setSp _ s.cpu, rfl, rfl, (Cpu.plain_setSp _ s.cpu).control,
      State.sameUnits_onCpu _ s.internal, s.internal_frame.onCpu _⟩

end Sys2Proof
end

section
/-! PROOF. The 8-bit arithmetic and logic (file 42_alu8.md, rules R461 to R492): each instruction leaves the
result and the flags of one computation, so an obligation is that computation in terms of numbers. -/

namespace Sys2Proof.Machine

/-! The bytes of a row. -/

theorem hasBytes_incReg (r : Reg8) : HasBytes (Instr.incReg r) [opByte (0x04 + 8 * r.code)] := by
  cases r <;> exact ⟨rfl, rfl, rfl⟩

theorem hasBytes_decReg (r : Reg8) : HasBytes (Instr.decReg r) [opByte (0x05 + 8 * r.code)] := by
  cases r <;> exact ⟨rfl, rfl, rfl⟩

/-! The ALU's computations in terms of numbers. -/

/-- The carry in: Cy for the operation that takes one, 0 for the others (rules R464, R470). -/
theorem toNat_decide_and (p : Prop) [Decidable p] (cy : Bool) :
    (decide p && cy).toNat = if p then cy.toNat else 0 := by
  by_cases h : p <;> simp [h]

theorem aluCompute_add {op : Alu} (h : op = .add ∨ op = .adc) (a v : Byte) (cy : Bool) :
    aluCompute op a v cy = addFlags a v (decide (op = .adc) && cy) := by
  rcases h with rfl | rfl <;> rfl

theorem aluCompute_sub {op : Alu} (h : op = .sub ∨ op = .sbc ∨ op = .cp) (a v : Byte) (cy : Bool) :
    aluCompute op a v cy = subFlags a v (decide (op = .sbc) && cy) := by
  rcases h with rfl | rfl | rfl <;> rfl

/-- CP alone leaves A (rules R482 to R484). -/
theorem aluResult_eq (op : Alu) (a r : Byte) : aluResult op a r = if op = .cp then a else r := by
  cases op <;> rfl

theorem toNat_addFlags (a v : Byte) (c : Bool) :
    (addFlags a v c).result.toNat = (a.toNat + v.toNat + c.toNat) % 256 :=
  BitVec.toNat_ofNat _ 8

theorem addFlags_z (a v : Byte) (c : Bool) :
    (addFlags a v c).z = decide ((a.toNat + v.toNat + c.toNat) % 256 = 0) := by
  rw [← toNat_addFlags, ← decide_eq_zero]
  rfl

theorem toNat_subFlags (a v : Byte) (c : Bool) :
    (subFlags a v c).result.toNat = (a.toNat + 512 - v.toNat - c.toNat) % 256 :=
  toNat_sub_borrow a v c

theorem subFlags_z (a v : Byte) (c : Bool) :
    (subFlags a v c).z = decide ((a.toNat + 512 - v.toNat - c.toNat) % 256 = 0) := by
  rw [← toNat_subFlags, ← decide_eq_zero]
  rfl

/-- The result of a logic operation (rules R473 to R481). -/
def logicResult (op : Alu) (a v : Byte) : Byte :=
  if op = .and then a &&& v else if op = .or then a ||| v else a ^^^ v

theorem aluCompute_logic {op : Alu} (h : op = .and ∨ op = .xor ∨ op = .or) (a v : Byte) (cy : Bool) :
    aluCompute op a v cy = logicFlags (logicResult op a v) (decide (op = .and)) := by
  rcases h with rfl | rfl | rfl <;> rfl

theorem logicResult_bit (op : Alu) (a v : Byte) (i : Nat) :
    (logicResult op a v).getLsbD i =
      (if op = .and then a.getLsbD i && v.getLsbD i
        else if op = .or then a.getLsbD i || v.getLsbD i
        else (a.getLsbD i).xor (v.getLsbD i)) := by
  unfold logicResult
  split_ifs
  · exact BitVec.getLsbD_and
  · exact BitVec.getLsbD_or
  · exact BitVec.getLsbD_xor

/-! The ALU instructions. -/

/-- What an ALU instruction whose computation is `k` leaves: A, the flags, and the frame. -/
theorem aluForms_leaves {op : Alu} {r : Reg8} {n : Byte} {s : State} {x : AluForm} {k : Computed}
    (hx : x ∈ aluForms op r n s) (hk : aluCompute op s.cpu.a x.operand s.cpu.cy = k) :
    Encoded x.instr x.bytes ∧
    ∃ t, exec x.instr s = .next t ∧ Takes x.cycles x.instr s t ∧
      t.cpu.a = (if op = .cp then s.cpu.a else k.result) ∧ Cpu.Flags k.z k.n k.h k.c t.cpu ∧
      Cpu.Rest [.a] s.cpu t.cpu ∧ State.SameUnits x.after t ∧ Frame s t := by
  subst hk
  obtain ⟨encoded, t, he, takes, hcpu, units, frame⟩ := aluForms_exec hx
  refine ⟨encoded, t, he, takes, ?_, Cpu.flags_a hcpu, Cpu.rest_a hcpu, units, frame⟩
  rw [hcpu, aluResult_eq]

/-- Settles O10: ADC adds Cy, and ADD nothing, to the sum. -/
theorem addBytes : Obligations.AddBytes := by
  unfold Obligations.AddBytes
  intro op r n s hop x hx v c
  have hc : (decide (op = .adc) && s.cpu.cy).toNat = c := toNat_decide_and _ _
  have hcp : op ≠ .cp := by rcases hop with rfl | rfl <;> decide
  obtain ⟨encoded, t, he, takes, ha, flags, frame⟩ :=
    aluForms_leaves hx (aluCompute_add hop s.cpu.a x.operand s.cpu.cy)
  refine ⟨encoded, t, he, takes, ?_, flags.congr ?_ rfl ?_ ?_, frame⟩
  · rw [ha, if_neg hcp, toNat_addFlags, hc]
  · rw [addFlags_z, hc]
  · rw [← hc]; rfl
  · rw [← hc]; rfl

/-- Settles O11: SBC takes Cy off with the operand, and CP leaves A as it was. -/
theorem subtractAndCompareBytes : Obligations.SubtractAndCompareBytes := by
  unfold Obligations.SubtractAndCompareBytes
  intro op r n s hop x hx v c
  have hc : (decide (op = .sbc) && s.cpu.cy).toNat = c := toNat_decide_and _ _
  obtain ⟨encoded, t, he, takes, ha, flags, frame⟩ :=
    aluForms_leaves hx (aluCompute_sub hop s.cpu.a x.operand s.cpu.cy)
  refine ⟨encoded, t, he, takes, ?_, flags.congr ?_ rfl ?_ ?_, frame⟩
  · rw [ha, apply_ite BitVec.toNat, toNat_subFlags, hc]
  · rw [subFlags_z, hc]
  · rw [← hc]; rfl
  · rw [← hc]; rfl

/-- Settles O12: the result bit by bit, and Z as the result's own. -/
theorem logicBytes : Obligations.LogicBytes := by
  unfold Obligations.LogicBytes
  intro op r n s hop x hx
  have hcp : op ≠ .cp := by rcases hop with rfl | rfl | rfl <;> decide
  obtain ⟨encoded, t, he, takes, ha, flags, frame⟩ :=
    aluForms_leaves hx (aluCompute_logic hop s.cpu.a x.operand s.cpu.cy)
  rw [if_neg hcp] at ha
  refine ⟨encoded, t, he, takes, fun i _ => ?_, flags.congr ?_ rfl rfl rfl, frame⟩
  · rw [ha]
    exact logicResult_bit op s.cpu.a x.operand i
  · rw [ha, ← decide_eq_zero]
    rfl

/-! INC and DEC. -/

theorem incFlags_result (v : Byte) (cy : Bool) :
    (incFlags v cy).result = BitVec.ofNat 8 (v.toNat + 1) :=
  BitVec.eq_of_toNat_eq (by simp [incFlags])

theorem toNat_incFlags (v : Byte) (cy : Bool) :
    (incFlags v cy).result.toNat = (v.toNat + 1) % 256 := by
  rw [incFlags_result, BitVec.toNat_ofNat]

/-- Down by one is up by 255. -/
theorem decFlags_result (v : Byte) (cy : Bool) :
    (decFlags v cy).result = BitVec.ofNat 8 (v.toNat + 255) :=
  BitVec.eq_of_toNat_eq (by simp [decFlags, BitVec.toNat_sub, Nat.add_comm])

theorem toNat_decFlags (v : Byte) (cy : Bool) :
    (decFlags v cy).result.toNat = (v.toNat + 255) % 256 := by
  rw [decFlags_result, BitVec.toNat_ofNat]

/-- INC's flags by the byte's number (rules R485, R486). -/
theorem Cpu.Flags.of_incFlags {v : Byte} {cy : Bool} {c : Cpu}
    (h : Cpu.Flags (incFlags v cy).z (incFlags v cy).n (incFlags v cy).h (incFlags v cy).c c) :
    Cpu.Flags (decide (v.toNat = 255)) false (decide (v.toNat % 16 = 15)) cy c :=
  h.congr (inc_zero v) rfl (decide_eq_decide.mpr (low_digit_max v)) rfl

/-- DEC's flags by the byte's number (rules R487, R488). -/
theorem Cpu.Flags.of_decFlags {v : Byte} {cy : Bool} {c : Cpu}
    (h : Cpu.Flags (decFlags v cy).z (decFlags v cy).n (decFlags v cy).h (decFlags v cy).c c) :
    Cpu.Flags (decide (v.toNat = 1)) true (decide (v.toNat % 16 = 0)) cy c :=
  h.congr (dec_zero v) rfl (decide_eq_decide.mpr (low_digit_zero v)) rfl

/-- What is left by a computation on a register and Cy: the register, the flags, and the rest. -/
theorem exec_onCpu_compute {i : Instr} {bytes : List Byte} {n : Nat} {r : Reg8}
    {g : Byte → Bool → Computed} {s : State} (hi : HasBytes i bytes) (hn : 4 * bytes.length = n)
    (he : exec i s = .next (s.onCpu (fun c =>
      (c.leaveFlags (g (c.get r) c.cy)).set r (g (c.get r) c.cy).result))) :
    let k := g (s.cpu.get r) s.cpu.cy
    Encoded i bytes ∧ ∃ t, exec i s = .next t ∧ Takes n i s t ∧ t.cpu.get r = k.result ∧
      Cpu.Flags k.z k.n k.h k.c t.cpu ∧ Cpu.Rest [r] s.cpu t.cpu ∧ State.SameUnits s t :=
  ⟨hi.encoded, _, he, hi.takes (k := 0) rfl (by omega), Cpu.get_set_same r _ _,
    Cpu.flags_set r _ _ s.cpu, Cpu.rest_set r _ _ s.cpu, State.sameUnits_onCpu _ s⟩

/-- A read and a write back at HL, when the computation leaves HL (rule R252). -/
theorem State.modifyAtHl_modifies {g : Byte → Cpu → Byte × Cpu} (hg : ∀ v c, (g v c).2.hl = c.hl)
    (s : State) : Modifies (g (s.memRead s.cpu.hl).1 s.cpu).1 s (s.modifyAtHl g) := by
  rw [State.modifyAtHl_eq g s hg]
  exact ⟨State.sameUnits_onCpu _ _, (State.memWrite_stores _ _ _).onCpu _, s.memRead_frame _⟩

theorem Cpu.leaveFlags_rest (k : Computed) (c : Cpu) : Cpu.Rest [] c (c.leaveFlags k) where
  regs r _ := Cpu.get_leaveFlags k r c
  sp := Cpu.leaveFlags_sp k c
  pc := Cpu.leaveFlags_pc k c
  control := (Cpu.plain_leaveFlags k c).control

/-- What is left by a computation on the byte at HL and Cy: the byte written back, the flags, and the
rest. -/
theorem exec_modifyAtHl_compute {i : Instr} {bytes : List Byte} {n : Nat}
    {g : Byte → Bool → Computed} {s : State} (hi : HasBytes i bytes) (hn : 8 + 4 * bytes.length = n)
    (he : exec i s = .next (s.modifyAtHl (fun v c => ((g v c.cy).result, c.leaveFlags (g v c.cy))))) :
    let k := g (s.memRead s.cpu.hl).1 s.cpu.cy
    Encoded i bytes ∧ ∃ t, exec i s = .next t ∧ Takes n i s t ∧ Modifies k.result s t ∧
      Cpu.Flags k.z k.n k.h k.c t.cpu ∧ Cpu.Rest [] s.cpu t.cpu := by
  have modifies := State.modifyAtHl_modifies
    (g := fun v c => ((g v c.cy).result, c.leaveFlags (g v c.cy))) (fun _ _ => rfl) s
  refine ⟨hi.encoded, _, he, hi.takes (State.modifyAtHl_clock _ s) hn, modifies, ?_⟩
  rw [State.modifyAtHl_cpu]
  exact ⟨Cpu.flags_leaveFlags _ s.cpu, Cpu.leaveFlags_rest _ s.cpu⟩

/-- Settles O13: the computation of INC or DEC, on a register or on the byte at HL. -/
theorem stepByte : Obligations.StepByte := by
  unfold Obligations.StepByte
  refine ⟨fun r s => ⟨?_, ?_⟩, fun s => ⟨?_, ?_⟩⟩
  · obtain ⟨encoded, t, he, takes, hr, flags, rest⟩ :=
      exec_onCpu_compute (hasBytes_incReg r) rfl (exec_incReg r s)
    exact ⟨encoded, t, he, takes, hr ▸ toNat_incFlags _ _, flags.of_incFlags, rest⟩
  · obtain ⟨encoded, t, he, takes, hr, flags, rest⟩ :=
      exec_onCpu_compute (hasBytes_decReg r) rfl (exec_decReg r s)
    exact ⟨encoded, t, he, takes, hr ▸ toNat_decFlags _ _, flags.of_decFlags, rest⟩
  · obtain ⟨encoded, t, he, takes, modifies, flags, rest⟩ :=
      exec_modifyAtHl_compute (i := .incAtHl) (bytes := [0x34#8]) (g := incFlags) (s := s)
        ⟨rfl, rfl, rfl⟩ rfl rfl
    rw [incFlags_result] at modifies
    exact ⟨encoded, t, he, takes, modifies, flags.of_incFlags, rest⟩
  · obtain ⟨encoded, t, he, takes, modifies, flags, rest⟩ :=
      exec_modifyAtHl_compute (i := .decAtHl) (bytes := [0x35#8]) (g := decFlags) (s := s)
        ⟨rfl, rfl, rfl⟩ rfl rfl
    rw [decFlags_result] at modifies
    exact ⟨encoded, t, he, takes, modifies, flags.of_decFlags, rest⟩

/-! DAA. -/

/-- The high digit is adjusted (rule R489). -/
def daaHigh (a : Byte) (n c : Bool) : Bool := c || (!n && decide (0x99 < a.toNat))

/-- The low digit is adjusted (rule R489). -/
def daaLow (a : Byte) (n h : Bool) : Bool := h || (!n && decide (9 < a.toNat % 16))

/-- What DAA adds after an addition and takes off after a subtraction (rule R489). -/
def daaAdjust (a : Byte) (n h c : Bool) : Nat :=
  (if daaHigh a n c then 0x60 else 0) + (if daaLow a n h then 0x06 else 0)

theorem toNat_add_if (p : Bool) (a d : Byte) :
    (if p then a + d else a).toNat = (a.toNat + if p then d.toNat else 0) % 256 := by
  cases p
  · exact (Nat.mod_eq_of_lt a.isLt).symm
  · exact BitVec.toNat_add a d

theorem toNat_sub_if (p : Bool) (a d : Byte) :
    (if p then a - d else a).toNat = (a.toNat + 256 - if p then d.toNat else 0) % 256 := by
  have ha := a.isLt
  cases p
  · rw [if_neg Bool.false_ne_true, if_neg Bool.false_ne_true]
    omega
  · rw [if_pos rfl, if_pos rfl, BitVec.toNat_sub]
    omega

theorem toNat_low_digit (a : Byte) : (a &&& 0x0F#8).toNat = a.toNat % 16 := by
  rw [BitVec.toNat_and]
  exact Nat.and_two_pow_sub_one_eq_mod a.toNat 4

/-- The model looks at the low digit after the high adjustment, which keeps it: 0x60 is six 16s. -/
theorem low_digit_add_high (p : Bool) (a : Byte) :
    ((if p then a + 0x60#8 else a) &&& 0x0F#8).toNat = a.toNat % 16 := by
  rw [toNat_low_digit, toNat_add_if, BitVec.toNat_ofNat]
  split <;> omega

theorem toNat_daaFlags (a : Byte) (n h c : Bool) :
    (daaFlags a n h c).result.toNat =
      if n then (a.toNat + 256 - daaAdjust a n h c) % 256
      else (a.toNat + daaAdjust a n h c) % 256 := by
  cases n with
  | true =>
    have ha := a.isLt
    have hsub : (daaFlags a true h c).result =
        if h then (if c then a - 0x60#8 else a) - 0x06#8 else if c then a - 0x60#8 else a := rfl
    have hadj : daaAdjust a true h c = (if c then 0x60 else 0) + (if h then 0x06 else 0) := by
      simp [daaAdjust, daaHigh, daaLow]
    rw [hsub, hadj, toNat_sub_if, toNat_sub_if, BitVec.toNat_ofNat, BitVec.toNat_ofNat, if_pos rfl]
    split <;> split <;> omega
  | false =>
    have hadd : (daaFlags a false h c).result =
        if daaLow a false h then (if daaHigh a false c then a + 0x60#8 else a) + 0x06#8
        else if daaHigh a false c then a + 0x60#8 else a := by
      simp only [daaLow, ← low_digit_add_high (daaHigh a false c) a]
      rfl
    rw [hadd, toNat_add_if, toNat_add_if, Nat.mod_add_mod, Nat.add_assoc]
    rfl

theorem daaFlags_z (a : Byte) (n h c : Bool) :
    (daaFlags a n h c).z = decide ((daaFlags a n h c).result.toNat = 0) := by
  rw [← decide_eq_zero]
  cases n <;> rfl

theorem daaFlags_n (a : Byte) (n h c : Bool) : (daaFlags a n h c).n = n := by
  cases n <;> rfl

theorem daaFlags_h (a : Byte) (n h c : Bool) : (daaFlags a n h c).h = false := by
  cases n <;> rfl

theorem daaFlags_c (a : Byte) (n h c : Bool) : (daaFlags a n h c).c = daaHigh a n c := by
  cases n with
  | true => exact (Bool.or_false c).symm
  | false => rfl

/-- Settles O14: the adjustment as one number, after an addition and after a subtraction. -/
theorem decimalAdjust : Obligations.DecimalAdjust := by
  unfold Obligations.DecimalAdjust
  intro s a high low d r
  have hi : HasBytes .daa [0x27#8] := ⟨rfl, rfl, rfl⟩
  have hr : (daaFlags s.cpu.a s.cpu.n s.cpu.hf s.cpu.cy).result.toNat = r := toNat_daaFlags _ _ _ _
  have hz := daaFlags_z s.cpu.a s.cpu.n s.cpu.hf s.cpu.cy
  rw [hr] at hz
  exact ⟨hi.encoded, daa s, rfl, hi.takes (k := 0) rfl rfl, hr,
    (Cpu.flags_a rfl).congr hz (daaFlags_n _ _ _ _) (daaFlags_h _ _ _ _) (daaFlags_c _ _ _ _),
    Cpu.rest_a rfl, State.sameUnits_onCpu _ s⟩

/-! Decimal addition. -/

theorem toNat_bcd {x : Nat} (h : x < 100) : (bcd x).toNat = 16 * (x / 10) + x % 10 := by
  rw [bcd, BitVec.toNat_ofNat]
  omega

/-- The sum of two BCD bytes needs the high adjustment when the decimal sum has a hundred. -/
theorem daaHigh_bcd_add {x y : Nat} (hx : x < 100) (hy : y < 100) {a : Byte}
    (ha : a.toNat = ((bcd x).toNat + (bcd y).toNat) % 256) :
    daaHigh a false (decide (255 < (bcd x).toNat + (bcd y).toNat)) = decide (100 ≤ x + y) := by
  rw [toNat_bcd hx, toNat_bcd hy] at *
  simp only [daaHigh, ha, Bool.not_false, Bool.true_and, ← Bool.decide_or]
  generalize hm : 16 * (x / 10) + x % 10 + (16 * (y / 10) + y % 10) = m
  have exceeds : (255 < m ∨ 0x99 < m % 256) ↔ 0x99 < m := by omega
  exact decide_eq_decide.mpr (exceeds.trans (by omega))

/-- It needs the low adjustment when the last decimal digits carry. -/
theorem daaLow_bcd_add {x y : Nat} (hx : x < 100) (hy : y < 100) {a : Byte}
    (ha : a.toNat = ((bcd x).toNat + (bcd y).toNat) % 256) :
    daaLow a false (decide (15 < (bcd x).toNat % 16 + (bcd y).toNat % 16)) =
      decide (10 ≤ x % 10 + y % 10) := by
  rw [toNat_bcd hx, toNat_bcd hy] at *
  simp only [daaLow, ha, Bool.not_false, Bool.true_and, ← Bool.decide_or]
  exact decide_eq_decide.mpr (by omega)

/-- The sum of the bytes counts a decimal hundred as 160 and a decimal ten as 10, where BCD counts 256 and
16: the adjustments are the 0x60 and the 0x06 between. -/
theorem bcd_add_adjusted {x y : Nat} (hx : x < 100) (hy : y < 100) :
    (((bcd x).toNat + (bcd y).toNat) % 256 +
      ((if decide (100 ≤ x + y) then 0x60 else 0) +
        (if decide (10 ≤ x % 10 + y % 10) then 0x06 else 0))) % 256 =
      (bcd ((x + y) % 100)).toNat := by
  rw [toNat_bcd hx, toNat_bcd hy, toNat_bcd (Nat.mod_lt _ (by decide))]
  simp only [decide_eq_true_eq]
  split <;> split <;> omega

/-- Settles O15: DAA adjusts each digit of the sum when it carries in decimal. -/
theorem decimalAddition : Obligations.DecimalAddition := by
  unfold Obligations.DecimalAddition
  intro x y r s hx hy _ ha hr
  obtain ⟨-, t, het, -, hsum, ⟨-, hn, hh, hcy, -⟩, -⟩ :=
    addBytes .add r 0x00#8 s (.inl rfl) _ List.mem_cons_self
  obtain ⟨-, u, heu, -, hres, uflags, -⟩ := decimalAdjust t
  replace hsum : t.cpu.a.toNat = ((bcd x).toNat + (bcd y).toNat) % 256 := ha ▸ hr ▸ hsum
  replace hcy : t.cpu.cy = decide (255 < (bcd x).toNat + (bcd y).toNat) := ha ▸ hr ▸ hcy
  replace hh : t.cpu.hf = decide (15 < (bcd x).toNat % 16 + (bcd y).toNat % 16) := ha ▸ hr ▸ hh
  have high : daaHigh t.cpu.a t.cpu.n t.cpu.cy = decide (100 ≤ x + y) := by
    rw [hn, hcy, daaHigh_bcd_add hx hy hsum]
  have low : daaLow t.cpu.a t.cpu.n t.cpu.hf = decide (10 ≤ x % 10 + y % 10) := by
    rw [hn, hh, daaLow_bcd_add hx hy hsum]
  refine ⟨t, u, het, heu, BitVec.eq_of_toNat_eq ?_, uflags.cy.trans high⟩
  rw [hres, hn, if_neg Bool.false_ne_true, ← bcd_add_adjusted hx hy, ← high, ← low, ← hsum, hn]
  rfl

/-! CPL, SCF and CCF. -/

theorem Cpu.setFlags_rest (z n h cy : Bool) (c : Cpu) : Cpu.Rest [] c (c.setFlags z n h cy) where
  regs r _ := Cpu.get_setFlags z n h cy r c
  sp := Cpu.setFlags_sp z n h cy c
  pc := Cpu.setFlags_pc z n h cy c
  control := (Cpu.plain_setFlags z n h cy c).control

/-- Settles O16: each writes the four flags, Z as it was, and CPL then A. -/
theorem accumulatorAndCarryOps : Obligations.AccumulatorAndCarryOps := by
  unfold Obligations.AccumulatorAndCarryOps
  intro s
  have hcpl : HasBytes .cpl [0x2F#8] := ⟨rfl, rfl, rfl⟩
  have hscf : HasBytes .scf [0x37#8] := ⟨rfl, rfl, rfl⟩
  have hccf : HasBytes .ccf [0x3F#8] := ⟨rfl, rfl, rfl⟩
  have flags := fun n h cy => Cpu.flags_setFlags s.cpu.z n h cy s.cpu
  have rest := fun n h cy => Cpu.setFlags_rest s.cpu.z n h cy s.cpu
  exact ⟨⟨hcpl.encoded, cpl s, rfl, hcpl.takes (k := 0) rfl rfl, BitVec.toNat_not,
      (flags true true s.cpu.cy).set .a _, (rest true true s.cpu.cy).trans (Cpu.set_rest .a _ _),
      State.sameUnits_onCpu _ s⟩,
    ⟨hscf.encoded, scf s, rfl, hscf.takes (k := 0) rfl rfl, flags _ _ _, rest _ _ _,
      State.sameUnits_onCpu _ s⟩,
    ⟨hccf.encoded, ccf s, rfl, hccf.takes (k := 0) rfl rfl, flags _ _ _, rest _ _ _,
      State.sameUnits_onCpu _ s⟩⟩

end Sys2Proof.Machine
end

section
/-! PROOF. The 16-bit arithmetic on the pairs (file 43_alu16.md, rules R501 to R503): each instruction is one
idle M-cycle and then one update of the CPU. -/

namespace Sys2Proof.Machine

/-! The bytes of a row. -/

theorem hasBytes_addHlPair (p : Pair) :
    HasBytes (Instr.addHlPair p) [opByte (0x09 + 16 * p.code)] := by
  cases p <;> exact ⟨rfl, rfl, rfl⟩

theorem hasBytes_incPair (p : Pair) :
    HasBytes (Instr.incPair p) [opByte (0x03 + 16 * p.code)] := by
  cases p <;> exact ⟨rfl, rfl, rfl⟩

theorem hasBytes_decPair (p : Pair) :
    HasBytes (Instr.decPair p) [opByte (0x0B + 16 * p.code)] := by
  cases p <;> exact ⟨rfl, rfl, rfl⟩

/-! ADD HL. -/

/-- The idle M-cycle neither reads nor writes the CPU, so F and HL are written together after it. -/
theorem addHl_eq (p : Pair) (s : State) :
    addHl p s = s.internal.onCpu
      (fun c => (c.addHlFlags (s.cpu.getPair p)).setHl (s.cpu.hl + s.cpu.getPair p)) := by
  simp only [addHl, State.internal_onCpu, State.onCpu_onCpu]

theorem Cpu.addHlFlags_rest (v : Word) (c : Cpu) : Cpu.Rest [] c (c.addHlFlags v) :=
  Cpu.setFlags_rest c.z false _ _ c

theorem Cpu.flags_addHlFlags (v : Word) (c : Cpu) :
    Cpu.Flags c.z false (carry12 c.hl v) (carry16 c.hl v) (c.addHlFlags v) :=
  Cpu.flags_setFlags c.z false _ _ c

/-! INC and DEC. -/

theorem Word.toNat_sub_one (v : Word) : (v - 1#16).toNat = (v.toNat + 65535) % 65536 := by
  rw [BitVec.toNat_sub, Nat.add_comm]
  rfl

/-- A pair stepped by `k` modulo 2^16 after the idle M-cycle, as INC (`k` is 1) and DEC (`k` is 65535) do. -/
theorem exec_stepPair {i : Instr} {op : Byte} {p : Pair} {f : Word → Word} {k : Nat} {s : State}
    (hi : HasBytes i [op]) (hf : ∀ v, (f v).toNat = (v.toNat + k) % 65536)
    (he : exec i s = .next (s.internal.onCpu (fun c => c.setPair p (f (c.getPair p))))) :
    Encoded i [op] ∧ ∃ t, exec i s = .next t ∧ Takes 8 i s t ∧
      (t.cpu.getPair p).toNat = ((s.cpu.getPair p).toNat + k) % 65536 ∧
      (∀ q, q ≠ p → t.cpu.getPair q = s.cpu.getPair q) ∧ t.cpu.a = s.cpu.a ∧
      t.cpu.f = s.cpu.f ∧ t.cpu.pc = s.cpu.pc ∧ Cpu.SameControl s.cpu t.cpu ∧
      State.SameUnits s.mCycle t ∧ Frame s t := by
  refine ⟨hi.encoded, _, he, hi.takes (k := 4) s.internal_clock rfl, ?_⟩
  rw [State.onCpu_cpu, State.internal_cpu]
  refine ⟨?_, fun q hq => Cpu.getPair_setPair_ne hq _ s.cpu, Cpu.setPair_a p _ s.cpu,
    Cpu.setPair_f p _ s.cpu, Cpu.setPair_pc p _ s.cpu, (Cpu.plain_setPair p _ s.cpu).control,
    State.sameUnits_onCpu _ s.mCycle, s.internal_frame.onCpu _⟩
  rw [Cpu.getPair_setPair, hf]

/-- Settles O17: ADD HL writes F and then HL, which keeps F; INC and DEC write the pair alone. -/
theorem pairArithmetic : Obligations.PairArithmetic := by
  unfold Obligations.PairArithmetic
  constructor
  · intro p s
    refine ⟨(hasBytes_addHlPair p).encoded, _,
      (exec_addHlPair p s).trans (congrArg Host.Outcome.next (addHl_eq p s)),
      (hasBytes_addHlPair p).takes (k := 4) s.internal_clock rfl, ?_⟩
    rw [State.onCpu_cpu, State.internal_cpu]
    refine ⟨?_, (Cpu.flags_addHlFlags _ s.cpu).of_f_eq (Cpu.setHl_f _ _),
      (Cpu.addHlFlags_rest _ s.cpu).trans (Cpu.setHl_rest _ _), State.sameUnits_onCpu _ s.mCycle,
      s.internal_frame.onCpu _⟩
    rw [Cpu.hl_setHl, BitVec.toNat_add]
  · intro p s
    exact ⟨exec_stepPair (hasBytes_incPair p) (fun v => BitVec.toNat_add v 1#16)
        (exec_incPair p s),
      exec_stepPair (hasBytes_decPair p) Word.toNat_sub_one (exec_decPair p s)⟩

end Sys2Proof.Machine
end

section
/-! PROOF. The rotates, the shifts and the bit instructions (file 44_rotate_shift_bit.md, rules R521 to R547):
a register or the byte at HL replaced by its computed byte, whose bits are known one by one. -/

namespace Sys2Proof.Machine

/-! The bytes of a row. -/

theorem hasBytes_rotReg (op : Rot) (r : Reg8) :
    HasBytes (Instr.rotReg op r) [0xCB#8, opByte (8 * op.code + r.code)] := by
  cases op <;> cases r <;> exact ⟨rfl, rfl, rfl⟩

theorem hasBytes_rotAtHl (op : Rot) :
    HasBytes (Instr.rotAtHl op) [0xCB#8, opByte (0x06 + 8 * op.code)] := by
  cases op <;> exact ⟨rfl, rfl, rfl⟩

theorem hasBytes_bitReg (b : Fin 8) (r : Reg8) :
    HasBytes (Instr.bitReg b r) [0xCB#8, opByte (0x40 + 8 * b.val + r.code)] := by
  fin_cases b <;> cases r <;> exact ⟨rfl, rfl, rfl⟩

theorem hasBytes_bitAtHl (b : Fin 8) :
    HasBytes (Instr.bitAtHl b) [0xCB#8, opByte (0x46 + 8 * b.val)] := by
  fin_cases b <;> exact ⟨rfl, rfl, rfl⟩

theorem hasBytes_resReg (b : Fin 8) (r : Reg8) :
    HasBytes (Instr.resReg b r) [0xCB#8, opByte (0x80 + 8 * b.val + r.code)] := by
  fin_cases b <;> cases r <;> exact ⟨rfl, rfl, rfl⟩

theorem hasBytes_resAtHl (b : Fin 8) :
    HasBytes (Instr.resAtHl b) [0xCB#8, opByte (0x86 + 8 * b.val)] := by
  fin_cases b <;> exact ⟨rfl, rfl, rfl⟩

theorem hasBytes_setReg (b : Fin 8) (r : Reg8) :
    HasBytes (Instr.setReg b r) [0xCB#8, opByte (0xC0 + 8 * b.val + r.code)] := by
  fin_cases b <;> cases r <;> exact ⟨rfl, rfl, rfl⟩

theorem hasBytes_setAtHl (b : Fin 8) :
    HasBytes (Instr.setAtHl b) [0xCB#8, opByte (0xC6 + 8 * b.val)] := by
  fin_cases b <;> exact ⟨rfl, rfl, rfl⟩

/-! The rotates and shifts. -/

/-- A rotate of the accumulator clears Z, N and Hf and computes Cy and A (rules R521 to R524). -/
theorem exec_rotA {i : Instr} {byte : Byte} {op : Rot} {s : State} (hi : HasBytes i [byte])
    (he : exec i s = .next (rotA op s)) :
    Encoded i [byte] ∧ ∃ t, exec i s = .next t ∧ Takes 4 i s t ∧
      (∀ j, j < 8 → t.cpu.a.getLsbD j = rotatedBit op s.cpu.a s.cpu.cy j) ∧
      Cpu.Flags false false false (shiftedOut op s.cpu.a) t.cpu ∧
      Cpu.Rest [.a] s.cpu t.cpu ∧ State.SameUnits s t := by
  have flags := Cpu.flags_setFlags false false false (rotCompute op s.cpu.a s.cpu.cy).2 s.cpu
  have rest := Cpu.setFlags_rest false false false (rotCompute op s.cpu.a s.cpu.cy).2 s.cpu
  exact ⟨hi.encoded, _, he, hi.takes (k := 0) rfl rfl, fun _ hj => rotCompute_bit op _ _ hj,
    (flags.set .a _).congr rfl rfl rfl (rotCompute_out op _ _), rest.trans (Cpu.set_rest .a _ _),
    State.sameUnits_onCpu _ s⟩

theorem rotFlags_bit (op : Rot) (v : Byte) (cy : Bool) {j : Nat} (hj : j < 8) :
    (rotFlags op v cy).result.getLsbD j = rotatedBit op v cy j :=
  rotCompute_bit op v cy hj

theorem Cpu.Flags.of_rotFlags {op : Rot} {v : Byte} {cy : Bool} {c : Cpu}
    (h : Cpu.Flags (rotFlags op v cy).z (rotFlags op v cy).n (rotFlags op v cy).h
      (rotFlags op v cy).c c) :
    Cpu.Flags (decide ((rotFlags op v cy).result.toNat = 0)) false false (shiftedOut op v) c :=
  h.congr (decide_eq_zero _) rfl rfl (rotCompute_out op v cy)

/-- Settles O18: the accumulator's four rotates, and the computation of a CB rotate on a register. -/
theorem rotateRegisters : Obligations.RotateRegisters := by
  unfold Obligations.RotateRegisters
  constructor
  · intro s
    simp only [List.forall_mem_cons]
    exact ⟨exec_rotA ⟨rfl, rfl, rfl⟩ rfl, exec_rotA ⟨rfl, rfl, rfl⟩ rfl,
      exec_rotA ⟨rfl, rfl, rfl⟩ rfl, exec_rotA ⟨rfl, rfl, rfl⟩ rfl,
      List.forall_mem_nil _⟩
  · intro op r s
    obtain ⟨encoded, t, he, takes, hr, flags, rest⟩ :=
      exec_onCpu_compute (g := rotFlags op) (hasBytes_rotReg op r) rfl (exec_rotReg op r s)
    refine ⟨encoded, t, he, takes, ?_⟩
    rw [hr]
    exact ⟨fun _ hj => rotFlags_bit op _ _ hj, flags.of_rotFlags, rest⟩

/-- Settles O19: the byte written back is the computation's result. -/
theorem rotateMemory : Obligations.RotateMemory := by
  unfold Obligations.RotateMemory
  intro op s
  obtain ⟨encoded, t, he, takes, modifies, flags, rest⟩ :=
    exec_modifyAtHl_compute (g := rotFlags op) (hasBytes_rotAtHl op) rfl (exec_rotAtHl op s)
  exact ⟨encoded, t, _, he, takes, fun _ hj => rotFlags_bit op _ _ hj, modifies, flags.of_rotFlags,
    rest⟩

/-! BIT. -/

theorem Source.read_cpu (x : Source) (s : State) : (x.read s).2.cpu = s.cpu := by
  cases x with
  | atHl => exact State.memRead_cpu s.cpu.hl s
  | reg r => rfl
  | imm n => rfl

theorem testBit_cpu (b : Nat) (x : Source) (s : State) :
    (testBit b x s).cpu = s.cpu.setFlags (!(x.read s).1.getLsbD b) false true s.cpu.cy := by
  rw [testBit, State.onCpu_cpu, Source.read_cpu]

/-- BIT of any operand writes the flags, and does nothing else but read it (rules R542, R543). -/
theorem testBit_spec (b : Nat) (x : Source) (s : State) :
    Cpu.Flags (!(x.read s).1.getLsbD b) false true s.cpu.cy (testBit b x s).cpu ∧
      Cpu.Rest [] s.cpu (testBit b x s).cpu ∧ State.SameUnits (x.read s).2 (testBit b x s) := by
  rw [testBit_cpu]
  exact ⟨Cpu.flags_setFlags _ _ _ _ s.cpu, Cpu.setFlags_rest _ _ _ _ s.cpu,
    State.sameUnits_onCpu _ (x.read s).2⟩

/-! RES and SET. -/

/-- Bit `b` of `v` is written with `p`, and `w` is what comes of it (rules R544 to R547). -/
def BitWritten (b : Fin 8) (p : Bool) (v w : Byte) : Prop :=
  ∀ j, j < 8 → w.getLsbD j = if j = b.val then p else v.getLsbD j

theorem bitWritten_clearedBit (b : Fin 8) (v : Byte) : BitWritten b false v (clearedBit b.val v) :=
  fun _ hj => clearedBit_bit b v hj

theorem bitWritten_raisedBit (b : Fin 8) (v : Byte) : BitWritten b true v (raisedBit b.val v) :=
  fun _ hj => raisedBit_bit b v hj

/-- A register that takes a byte with one bit written. -/
theorem exec_writeBitReg {i : Instr} {x y : Byte} {b : Fin 8} {p : Bool} {r : Reg8} {g : Byte → Byte}
    {s : State} (hi : HasBytes i [x, y]) (hg : ∀ v, BitWritten b p v (g v))
    (he : exec i s = .next (s.onCpu (fun c => c.set r (g (c.get r))))) :
    Encoded i [x, y] ∧ ∃ t, exec i s = .next t ∧ Takes 8 i s t ∧
      BitWritten b p (s.cpu.get r) (t.cpu.get r) ∧
      Cpu.Rest [r] s.cpu t.cpu ∧ t.cpu.f = s.cpu.f ∧ State.SameUnits s t := by
  obtain ⟨encoded, t, het, takes, hr, rest⟩ := exec_onCpu_set hi rfl he
  exact ⟨encoded, t, het, takes, hr ▸ hg _, rest⟩

/-- The byte at HL written back with one bit written: the CPU is as it was. -/
theorem exec_writeBitAtHl {i : Instr} {x y : Byte} {b : Fin 8} {p : Bool} {g : Byte → Byte}
    {s : State} (hi : HasBytes i [x, y]) (hg : ∀ v, BitWritten b p v (g v))
    (he : exec i s = .next (s.modifyAtHl (fun v c => (g v, c)))) :
    Encoded i [x, y] ∧ ∃ t w, exec i s = .next t ∧ Takes 16 i s t ∧
      BitWritten b p (s.memRead s.cpu.hl).1 w ∧ Modifies w s t ∧ t.cpu = s.cpu := by
  have modifies := State.modifyAtHl_modifies (g := fun v c => (g v, c)) (fun _ _ => rfl) s
  exact ⟨hi.encoded, _, _, he, hi.takes (State.modifyAtHl_clock _ s) rfl, hg _, modifies,
    State.modifyAtHl_cpu _ s⟩

/-- Settles O21: RES clears and SET sets one bit of the byte, in a register or at HL. -/
theorem writeBit : Obligations.WriteBit := by
  unfold Obligations.WriteBit
  constructor
  · intro b r s
    simp only [List.forall_mem_cons]
    exact ⟨exec_writeBitReg (hasBytes_resReg b r) (bitWritten_clearedBit b) (exec_resReg b r s),
      exec_writeBitReg (hasBytes_setReg b r) (bitWritten_raisedBit b) (exec_setReg b r s),
      List.forall_mem_nil _⟩
  · intro b s
    simp only [List.forall_mem_cons]
    exact ⟨exec_writeBitAtHl (hasBytes_resAtHl b) (bitWritten_clearedBit b) (exec_resAtHl b s),
      exec_writeBitAtHl (hasBytes_setAtHl b) (bitWritten_raisedBit b) (exec_setAtHl b s),
      List.forall_mem_nil _⟩

/-! The byte 0xCB. -/

/-- Settles O22: the row run after the second byte is the one that byte decodes to. -/
theorem prefixRunsTheRow : Obligations.PrefixRunsTheRow := by
  unfold Obligations.PrefixRunsTheRow
  exact fun s => ⟨runPrefixed s, rfl, exec_decodeCb s.fetch8.1 s.fetch8.2⟩

end Sys2Proof.Machine

namespace Sys2Proof

open Machine

/-- Settles O20: a register is read at no cost, the byte at HL in one M-cycle. It stands outside `Machine`,
where `testBit` is the operation. -/
theorem testBit : Obligations.TestBit := by
  unfold Obligations.TestBit
  intro b r s
  have hr := hasBytes_bitReg b r
  have hm := hasBytes_bitAtHl b
  obtain ⟨flags, rest, units⟩ := testBit_spec b.val .atHl s
  exact ⟨⟨hr.encoded, _, exec_bitReg b r s, hr.takes (k := 0) rfl rfl, testBit_spec b.val (.reg r) s⟩,
    hm.encoded, _, exec_bitAtHl b s, hm.takes (s.memRead_clock s.cpu.hl) rfl, flags, rest, units,
    (s.memRead_frame s.cpu.hl).onCpu _⟩

end Sys2Proof
end

section
/-! PROOF. The jumps, the calls and the returns (file 45_control.md, rules R560 to R571): each one is its
M-cycles and then one update of the CPU, and a condition only chooses whether they are run. -/

namespace Sys2Proof.Machine

/-! The bytes of a row. -/

theorem hasBytes_jpCond (cc : Cond) (nn : Word) :
    HasBytes (Instr.jpCond cc nn) [opByte (0xC2 + 8 * cc.code), nn.lo, nn.hi] := by
  cases cc <;> exact ⟨rfl, rfl, rfl⟩

theorem hasBytes_jrCond (cc : Cond) (e : Byte) :
    HasBytes (Instr.jrCond cc e) [opByte (0x20 + 8 * cc.code), e] := by
  cases cc <;> exact ⟨rfl, rfl, rfl⟩

theorem hasBytes_callCond (cc : Cond) (nn : Word) :
    HasBytes (Instr.callCond cc nn) [opByte (0xC4 + 8 * cc.code), nn.lo, nn.hi] := by
  cases cc <;> exact ⟨rfl, rfl, rfl⟩

theorem hasBytes_retCond (cc : Cond) :
    HasBytes (Instr.retCond cc) [opByte (0xC0 + 8 * cc.code)] := by
  cases cc <;> exact ⟨rfl, rfl, rfl⟩

theorem hasBytes_rst (y : Fin 8) : HasBytes (Instr.rst y) [opByte (0xC7 + 8 * y.val)] := by
  fin_cases y <;> exact ⟨rfl, rfl, rfl⟩

/-! The conditions. -/

theorem Cpu.holds_eq_condHolds (cc : Cond) (c : Cpu) : c.holds cc = condHolds cc c := by
  cases cc <;> rfl

section
variable {cc : Cond} {s : State}

theorem exec_jpCond_taken (h : condHolds cc s.cpu = true) (nn : Word) :
    exec (Instr.jpCond cc nn) s = .next (jump nn s) := by
  rw [exec_jpCond, jumpIf, Cpu.holds_eq_condHolds, h, if_pos rfl]

theorem exec_jpCond_notTaken (h : condHolds cc s.cpu = false) (nn : Word) :
    exec (Instr.jpCond cc nn) s = .next s := by
  rw [exec_jpCond, jumpIf, Cpu.holds_eq_condHolds, h, if_neg Bool.false_ne_true]

theorem exec_jrCond_taken (h : condHolds cc s.cpu = true) (e : Byte) :
    exec (Instr.jrCond cc e) s = .next (jumpRel e s) := by
  rw [exec_jrCond, jumpRelIf, Cpu.holds_eq_condHolds, h, if_pos rfl]

theorem exec_jrCond_notTaken (h : condHolds cc s.cpu = false) (e : Byte) :
    exec (Instr.jrCond cc e) s = .next s := by
  rw [exec_jrCond, jumpRelIf, Cpu.holds_eq_condHolds, h, if_neg Bool.false_ne_true]

theorem exec_callCond_taken (h : condHolds cc s.cpu = true) (nn : Word) :
    exec (Instr.callCond cc nn) s = .next (call nn s) := by
  rw [exec_callCond, callIf, Cpu.holds_eq_condHolds, h, if_pos rfl]

theorem exec_callCond_notTaken (h : condHolds cc s.cpu = false) (nn : Word) :
    exec (Instr.callCond cc nn) s = .next s := by
  rw [exec_callCond, callIf, Cpu.holds_eq_condHolds, h, if_neg Bool.false_ne_true]

/-- The condition is tested after an M-cycle, which keeps the flags (rule R569). -/
theorem exec_retCond_taken (h : condHolds cc s.cpu = true) :
    exec (Instr.retCond cc) s = .next s.mCycle.returnPc := by
  have hm : s.internal.cpu.holds cc = true := by rw [State.internal_cpu, Cpu.holds_eq_condHolds, h]
  exact (exec_retCond cc s).trans (congrArg Host.Outcome.next (if_pos hm))

theorem exec_retCond_notTaken (h : condHolds cc s.cpu = false) :
    exec (Instr.retCond cc) s = .next s.mCycle := by
  have hm : ¬s.internal.cpu.holds cc = true := by
    rw [State.internal_cpu, Cpu.holds_eq_condHolds, h]
    exact Bool.false_ne_true
  exact (exec_retCond cc s).trans (congrArg Host.Outcome.next (if_neg hm))

end

/-- An instruction that does nothing after its fetch takes the fetch's T-cycles. -/
theorem HasBytes.skips {i : Instr} {bytes : List Byte} {n : Nat} {s : State} (hi : HasBytes i bytes)
    (hn : 4 * bytes.length = n) (he : exec i s = .next s) : exec i s = .next s ∧ Takes n i s s :=
  ⟨he, hi.takes (k := 0) rfl ((Nat.zero_add _).trans hn)⟩

/-! The jumps. -/

theorem jumpsTo_of_jump {i : Instr} {bytes : List Byte} {target : Word} {n : Nat} {s : State}
    (hi : HasBytes i bytes) (hn : 4 + 4 * bytes.length = n) (he : exec i s = .next (jump target s)) :
    JumpsTo i target n s.mCycle s := by
  refine ⟨_, he, hi.takes s.internal_clock hn, ?_, State.sameUnits_onCpu _ s.mCycle,
    s.internal_frame.onCpu _⟩
  rw [jump, State.onCpu_cpu, State.internal_cpu, Cpu.goto]

/-- The sum of the statement is the model's (rule R564). -/
theorem jumpsTo_of_jumpRel {i : Instr} {bytes : List Byte} {e : Byte} {n : Nat} {s : State}
    (hi : HasBytes i bytes) (hn : 4 + 4 * bytes.length = n) (he : exec i s = .next (jumpRel e s)) :
    JumpsTo i (BitVec.ofInt 16 (s.cpu.pc.toNat + e.toInt)) n s.mCycle s :=
  jumpsTo_of_jump hi hn (jumpRel_eq e s ▸ he)

theorem jumpsTo_jpHl (s : State) : JumpsTo .jpHl s.cpu.hl 4 s s :=
  have hi : HasBytes .jpHl [0xE9#8] := ⟨rfl, rfl, rfl⟩
  ⟨jumpHl s, rfl, hi.takes (k := 0) rfl rfl, rfl, State.sameUnits_onCpu _ s, (Frame.refl s).onCpu _⟩

/-! The calls. -/

/-- A call as its accesses (rule R566): the idle M-cycle keeps the CPU, so SP and PC are those before it. -/
theorem call_eq (nn : Word) (s : State) :
    call nn s =
      ((s.mCycle.memWrite (s.cpu.sp - 1#16) s.cpu.pc.hi).memWrite (s.cpu.sp - 2#16)
        s.cpu.pc.lo).onCpu (fun c => { c with sp := c.sp - 2#16, pc := nn }) := by
  rw [call, State.pushWord_eq, State.internal_cpu, State.onCpu_onCpu, State.internal]
  rfl

theorem calls_of_call {i : Instr} {bytes : List Byte} {target : Word} {n : Nat} {s : State}
    (hi : HasBytes i bytes) (hn : 12 + 4 * bytes.length = n) (he : exec i s = .next (call target s)) :
    Calls i target n s := by
  refine ⟨_, he, hi.takes (by simp [call]) hn, ?_⟩
  rw [call_eq]
  refine ⟨?_, State.sameUnits_onCpu _ _, (s.mCycle.memWrite_storesTwo _ _ _ _).onCpu _⟩
  rw [State.onCpu_cpu, State.memWrite_cpu, State.memWrite_cpu, State.mCycle_cpu]

/-! The returns. -/

theorem State.returnPc_cpu (s : State) :
    s.returnPc.cpu = { s.cpu with sp := s.cpu.sp + 2#16, pc := s.popWord.1 } := by
  rw [State.returnPc, State.onCpu_cpu, State.internal_cpu, State.popWord_cpu]

theorem State.returnPc_sameUnits (s : State) :
    State.SameUnits ((s.memRead s.cpu.sp).2.memRead (s.cpu.sp + 1#16)).2.mCycle s.returnPc := by
  rw [State.returnPc_eq]
  exact State.sameUnits_onCpu _ _

theorem State.returnPc_frame (s : State) : Frame s s.returnPc := by
  rw [State.returnPc]
  exact (s.popWord_frame.trans (State.internal_frame _)).onCpu _

/-- RET keeps IME, so it is a return that writes IME with its own value. -/
theorem State.returnPc_onCpu_ime (s : State) :
    s.returnPc.onCpu (fun c => { c with ime := s.cpu.ime }) = s.returnPc := by
  have h : { s.returnPc.cpu with ime := s.cpu.ime } = s.returnPc.cpu := by rw [s.returnPc_cpu]
  rw [State.onCpu, h]

/-- A return from `s` with `ime` written to IME, where `s` is what the instruction, begun in `s0`, has done
before the pops: `k` T-cycles that keep the CPU. -/
theorem returns_of_returnPc {i : Instr} {bytes : List Byte} {ime : Bool} {n k : Nat} {s0 s : State}
    (hi : HasBytes i bytes) (hn : k + 12 + 4 * bytes.length = n)
    (he : exec i s0 = .next (s.returnPc.onCpu (fun c => { c with ime := ime })))
    (cpu : s.cpu = s0.cpu) (clock : s.clock = s0.clock + k) (frame : Frame s0 s) :
    Returns i ime n s0 s := by
  have hclock : s.returnPc.clock = s0.clock + (k + 12) := by
    rw [s.returnPc_clock, clock, Nat.add_assoc]
  refine ⟨_, he, hi.takes hclock hn, ?_⟩
  rw [State.onCpu_cpu, State.returnPc_cpu, ← State.popWord_lo, ← State.popWord_hi, ← cpu]
  exact ⟨rfl, rfl, rfl, s.returnPc_sameUnits.onCpu _, (frame.trans s.returnPc_frame).onCpu _⟩

/-- Settles O25: RETI is RET with IME written, and RET cc a return from the state after one M-cycle. -/
theorem return_ : Obligations.Return := by
  unfold Obligations.Return
  intro cc s
  have ret : HasBytes .ret [0xC9#8] := ⟨rfl, rfl, rfl⟩
  have reti : HasBytes .reti [0xD9#8] := ⟨rfl, rfl, rfl⟩
  have retCond := hasBytes_retCond cc
  refine ⟨⟨ret.encoded, returns_of_returnPc (k := 0) ret rfl ?_ rfl rfl (Frame.refl s)⟩,
    ⟨reti.encoded, returns_of_returnPc (k := 0) reti rfl rfl rfl rfl (Frame.refl s)⟩,
    retCond.encoded,
    fun h => returns_of_returnPc retCond rfl ?_ s.mCycle_cpu s.mCycle_clock s.mCycle_frame,
    fun h => ⟨exec_retCond_notTaken h, retCond.takes s.mCycle_clock rfl⟩⟩
  · rw [s.returnPc_onCpu_ime]
    rfl
  · rw [← s.mCycle_cpu, s.mCycle.returnPc_onCpu_ime]
    exact exec_retCond_taken h

end Sys2Proof.Machine

namespace Sys2Proof

open Machine

/-- Settles O23: a conditional form is the plain jump or nothing. It stands outside `Machine`, where `jump` is
the operation. -/
theorem jump : Obligations.Jump := by
  unfold Obligations.Jump
  constructor
  · intro e nn s
    have jp : HasBytes (.jpNn nn) [0xC3#8, nn.lo, nn.hi] := ⟨rfl, rfl, rfl⟩
    have jpHl : HasBytes .jpHl [0xE9#8] := ⟨rfl, rfl, rfl⟩
    have jr : HasBytes (.jrOff e) [0x18#8, e] := ⟨rfl, rfl, rfl⟩
    exact ⟨⟨jp.encoded, jumpsTo_of_jump jp rfl rfl⟩, ⟨jpHl.encoded, jumpsTo_jpHl s⟩,
      jr.encoded, jumpsTo_of_jumpRel jr rfl rfl⟩
  · intro cc e nn s
    have jp := hasBytes_jpCond cc nn
    have jr := hasBytes_jrCond cc e
    exact ⟨jp.encoded, jr.encoded,
      fun h => ⟨jumpsTo_of_jump jp rfl (exec_jpCond_taken h nn),
        jumpsTo_of_jumpRel jr rfl (exec_jrCond_taken h e)⟩,
      fun h => ⟨jp.skips rfl (exec_jpCond_notTaken h nn), jr.skips rfl (exec_jrCond_notTaken h e)⟩⟩

/-- Settles O24: RST is a call of 8 y, and a conditional call the plain one or nothing. It stands outside
`Machine`, where `call` is the operation. -/
theorem call : Obligations.Call := by
  unfold Obligations.Call
  intro cc y nn s
  have callNn : HasBytes (.callNn nn) [0xCD#8, nn.lo, nn.hi] := ⟨rfl, rfl, rfl⟩
  have callCond := hasBytes_callCond cc nn
  exact ⟨⟨callNn.encoded, calls_of_call callNn rfl rfl⟩,
    ⟨(hasBytes_rst y).encoded, calls_of_call (hasBytes_rst y) rfl (exec_rst y s)⟩,
    callCond.encoded, fun h => calls_of_call callCond rfl (exec_callCond_taken h nn),
    fun h => callCond.skips rfl (exec_callCond_notTaken h nn)⟩

end Sys2Proof
end

section
/-! PROOF. NOP, DI, EI, HALT and STOP (file 46_system.md, rules R601 to R605): each one updates the CPU, and STOP
can clear the counter besides. With IME = 1 the bit EI sets is unseen: a dispatch and the opcode fetch both clear it,
and the fetch leaves IME = 1 with it or without. -/

namespace Sys2Proof.Machine

/-! What the units outside the CPU being as in `u` says of two of them. -/

theorem State.SameUnits.timer {u t : State} (h : State.SameUnits u t) : t.timer = u.timer :=
  (congrArg State.timer (show { t with cpu := u.cpu } = u from h) :)

theorem State.SameUnits.clock {u t : State} (h : State.SameUnits u t) : t.clock = u.clock :=
  (congrArg State.clock (show { t with cpu := u.cpu } = u from h) :)

/-! EI and the check and the fetch after it. -/

theorem State.interruptCheck_of_disabled {s : State} (h : s.cpu.ime = false) :
    s.interruptCheck = s := by
  simp [State.interruptCheck, h]

/-- The next opcode fetch moves the bit EI sets into IME (rule R320). -/
theorem enableInterrupts_fetchOpcode_ime (s : State) :
    (enableInterrupts s).fetchOpcode.2.cpu.ime = true := by
  rw [State.fetchOpcode, State.onCpu_cpu, State.memRead_cpu]
  exact Bool.or_true s.cpu.ime

/-- With IME already 1 the next opcode fetch leaves what it would without the EI (rule R605). -/
theorem enableInterrupts_fetchOpcode {s : State} (h : s.cpu.ime = true) :
    (enableInterrupts s).fetchOpcode = s.fetchOpcode := by
  have hcpu : ({ s.cpu with imePending := true } : Cpu).afterOpcode = s.cpu.afterOpcode := by
    simp [Cpu.afterOpcode, h]
  have hread := s.memRead_onCpu s.cpu.pc (fun c => { c with imePending := true })
  rw [State.fetchOpcode, enableInterrupts, State.onCpu_cpu, hread, State.onCpu_onCpu]
  simp only [State.onCpu, State.memRead_cpu, hcpu, State.fetchOpcode]

/-- The start of a dispatch clears the bit EI sets (assumption log 18). -/
theorem enableInterrupts_acknowledge (i : Nat) (s : State) :
    (enableInterrupts s).acknowledge i = s.acknowledge i := rfl

theorem enableInterrupts_dispatch (s : State) : (enableInterrupts s).dispatch = s.dispatch := by
  simp only [State.dispatch, enableInterrupts_acknowledge]
  rfl

/-- The check after EI decides as it would without the EI: a dispatch forgets the bit, and without one the next
opcode fetch does (rule R605). -/
theorem enableInterrupts_interruptCheck_fetchOpcode {s : State} (h : s.cpu.ime = true) :
    (enableInterrupts s).interruptCheck.fetchOpcode = s.interruptCheck.fetchOpcode := by
  have hcheck : (enableInterrupts s).interruptCheck =
      if !s.cpu.locked && s.cpu.ime && decide (s.irq.pending ≠ 0#5) then (enableInterrupts s).dispatch
      else enableInterrupts s := rfl
  rw [hcheck, State.interruptCheck]
  split
  · rw [enableInterrupts_dispatch]
  · exact enableInterrupts_fetchOpcode h

/-- Settles O26: DI and EI are one update of the CPU, and what follows an EI is in the lemmas above. -/
theorem nopDiEi : Obligations.NopDiEi := by
  unfold Obligations.NopDiEi
  intro s
  have nop : HasBytes .nop [0x00#8] := ⟨rfl, rfl, rfl⟩
  have di : HasBytes .di [0xF3#8] := ⟨rfl, rfl, rfl⟩
  have ei : HasBytes .ei [0xFB#8] := ⟨rfl, rfl, rfl⟩
  exact ⟨⟨nop.encoded, nop.skips rfl rfl⟩,
    ⟨di.encoded, disableInterrupts s, rfl, di.takes (k := 0) rfl rfl, rfl, State.sameUnits_onCpu _ s⟩,
    ei.encoded, enableInterrupts s, rfl, ei.takes (k := 0) rfl rfl, rfl, State.sameUnits_onCpu _ s,
    enableInterrupts_fetchOpcode_ime s, fun h => State.interruptCheck_of_disabled h,
    enableInterrupts_interruptCheck_fetchOpcode⟩

/-! HALT. -/

section
variable {s : State}

theorem halt_of_nothing_pending (h : s.irq.pending = 0#5) :
    halt s = s.onCpu (fun c => { c with halted := true }) := if_pos h

theorem halt_of_pending_disabled (h : s.irq.pending ≠ 0#5) (hi : s.cpu.ime = false) :
    halt s = s.onCpu (fun c => { c with haltBug := true }) := by
  rw [halt, if_neg h, hi, if_neg Bool.false_ne_true]

theorem halt_of_pending_enabled (h : s.irq.pending ≠ 0#5) (hi : s.cpu.ime = true) : halt s = s := by
  rw [halt, if_neg h, if_pos hi]

end

theorem halt_sameUnits (s : State) : State.SameUnits s (halt s) := by
  rcases halt_cpu_cases s with h | h | h <;> rw [h]
  · exact State.sameUnits_onCpu _ s
  · exact State.sameUnits_refl s
  · exact State.sameUnits_onCpu _ s

/-! STOP. -/

section
variable {s : State}

/-- Without STOP_RESETS_DIV, STOP is an update of the CPU alone. -/
theorem stop_sameUnits_keptDiv (h : s.params.stopResetsDiv = false) :
    State.SameUnits s (stop s) := by
  rw [stop, State.stopDiv, State.onCpu_params, h, if_neg Bool.false_ne_true]
  exact State.sameUnits_onCpu _ s

/-- With it, STOP clears the counter besides (rule R762). -/
theorem stop_sameUnits_clearedDiv (h : s.params.stopResetsDiv = true) :
    State.SameUnits { s with timer := s.timer.clearCounter } (stop s) := by
  rw [stop, State.stopDiv, State.onCpu_params, h, if_pos rfl]
  rfl

end

theorem Timer.clearCounter_counter (t : Timer) : t.clearCounter.counter = 0#16 := by
  rw [Timer.clearCounter, Timer.edgeCheck_counter]

theorem stop_clock (s : State) : (stop s).clock = s.clock := by
  cases h : s.params.stopResetsDiv with
  | false => exact (stop_sameUnits_keptDiv h).clock
  | true => exact (stop_sameUnits_clearedDiv h).clock

end Sys2Proof.Machine

namespace Sys2Proof

open Machine

/-- Settles O27: the three cases of rule R602. It stands outside `Machine`, where `halt` is the operation. -/
theorem halt : Obligations.Halt := by
  unfold Obligations.Halt
  intro s pending
  have hi : HasBytes .halt [0x76#8] := ⟨rfl, rfl, rfl⟩
  have units := halt_sameUnits s
  refine ⟨hi.encoded, Machine.halt s, rfl, hi.takes (k := 0) units.clock rfl, units, ?_, ?_, ?_⟩
  · intro h
    rw [halt_of_nothing_pending h, State.onCpu_cpu]
  · intro h hime
    rw [halt_of_pending_disabled h hime, State.onCpu_cpu]
  · intro h hime
    rw [halt_of_pending_enabled h hime]

/-- Settles O28: one byte is fetched, and the second is skipped by PC alone. It stands outside `Machine`, where
`stop` is the operation. -/
theorem stop : Obligations.Stop := by
  unfold Obligations.Stop
  intro b s pending
  refine ⟨fun _ => rfl, Machine.stop s, rfl, takes_of (f := 1) (k := 0) rfl (stop_clock s) rfl,
    stop_cpu s, stop_sameUnits_keptDiv, fun h => ?_⟩
  have units := stop_sameUnits_clearedDiv h
  refine ⟨?_, units⟩
  rw [units.timer, Timer.clearCounter_counter]

end Sys2Proof
end

section
/-! PROOF. The interrupt check and the dispatch, and the step of a halted or stopped CPU (rules R710 to R712,
R720). -/

namespace Sys2Proof.Machine

/-! The check. -/

section
variable {s : State}

theorem State.interruptCheck_of_pending (hl : s.cpu.locked = false) (hi : s.cpu.ime = true)
    (hp : s.irq.pending ≠ 0#5) : s.interruptCheck = s.dispatch := by
  simp [State.interruptCheck, hl, hi, hp]

theorem State.interruptCheck_of_nothing_pending (hp : s.irq.pending = 0#5) :
    s.interruptCheck = s := by
  simp [State.interruptCheck, hp]

theorem Interrupts.pending_ne_zero {q : Interrupts} {i : Nat} (h : q.pending.getLsbD i = true) :
    q.pending ≠ 0#5 := by
  intro h0
  rw [h0, BitVec.getLsbD_zero] at h
  exact Bool.false_ne_true h

end

/-- Settles O30: the check that finds something pending is the dispatch, written as its accesses. -/
theorem interruptCheck : Obligations.InterruptCheck := by
  unfold Obligations.InterruptCheck
  constructor
  · intro s i hi hl hime hp hlow u
    have hd : s.interruptCheck = _ :=
      (State.interruptCheck_of_pending hl hime (Interrupts.pending_ne_zero hp)).trans
        (State.dispatch_eq (Interrupts.lowest_eq hi hp hlow))
    rw [hd]
    refine ⟨?_, State.sameUnits_onCpu _ _, State.memWrite_storesTwo _ _ _ _ _, ?_⟩
    · simp only [State.onCpu_cpu, State.mCycle_cpu, State.memWrite_cpu, vector]
    · rw [State.onCpu_clock, State.mCycle_clock, State.memWrite_clock, State.memWrite_clock,
        State.mCycle_clock, State.mCycle_clock]
  · rintro s (hl | hi | hp)
    · exact State.interruptCheck_of_locked hl
    · exact State.interruptCheck_of_disabled hi
    · exact State.interruptCheck_of_nothing_pending hp

/-! The idle M-cycle. -/

section
variable {s : State}

theorem State.idle_of_nothing_pending (h : s.mCycle.irq.pending = 0#5) : s.idle = s.mCycle :=
  if_pos h

theorem State.idle_of_pending (h : s.mCycle.irq.pending ≠ 0#5) :
    s.idle = State.interruptCheck
      { s.mCycle with cpu := { s.cpu with halted := false, stopped := false } } := by
  have hcpu : s.mCycle.onCpu (fun c => { c with halted := false, stopped := false }) =
      { s.mCycle with cpu := { s.cpu with halted := false, stopped := false } } := by
    rw [State.onCpu, State.mCycle_cpu]
  rw [← hcpu]
  exact if_neg h

/-- A halted or stopped CPU that is not LOCKED idles (rule R720). -/
theorem step_of_halted (hin : s.hostInputs = []) (hl : s.cpu.locked = false)
    (hh : s.cpu.halted = true ∨ s.cpu.stopped = true) : step s = .next s.idle := by
  unfold step
  rw [State.takeInput_of_none hin, State.runCpu_unlocked hl]
  exact if_pos (by rwa [Bool.or_eq_true])

end

/-- Settles O31: the step is the idle M-cycle, by whether a request is there at its end. -/
theorem haltedStep : Obligations.HaltedStep := by
  unfold Obligations.HaltedStep
  intro s hin hl hh m
  rw [step_of_halted hin hl hh]
  exact ⟨fun h => ⟨congrArg _ (State.idle_of_nothing_pending h), State.mCycle_cpu s⟩,
    fun h => congrArg _ (State.idle_of_pending h)⟩

end Sys2Proof.Machine
end

section
/-! PROOF. Who sets the bits of IF in a T-cycle (rules R701, R760, R764, R800, R802, R823, R824, R870, R871,
R905): the event of each unit's slot, in terms of that unit's state. -/

namespace Sys2Proof.Machine

/-! The event of each slot. -/

/-- The timer's interrupt comes with the last T-cycle of the reload delay (rule R764). -/
theorem Timer.step_event (t : Timer) : t.step.2 = decide (t.reload = 1) := by
  have hr : t.step.2 = t.reloadStep.2 := rfl
  rw [hr, Timer.reloadStep]
  split
  · rename_i h
    rw [h]
    rfl
  · split <;> rename_i h <;> simp [h]

/-- The serial interrupt comes with the last T-cycle of a transfer (rule R871). -/
theorem Serial.step_event (p : Serial) : p.step.2 = decide (p.countdown = 1) := by
  unfold Serial.step
  split
  · rename_i h
    rw [h]
    rfl
  · split <;> rename_i h <;> simp [h]

/-- The low four bits of P1 are its lines (rule R870). -/
theorem Joypad.readP1_low (j : Joypad) {i : Nat} (hi : i < 4) :
    j.readP1.getLsbD i = j.lines.getLsbD i := by
  unfold Joypad.readP1
  rw [BitVec.getLsbD_append, if_pos hi]

/-- The joypad's interrupt comes with a line that falls (rule R870). -/
theorem Joypad.evaluate_event (j : Joypad) : j.evaluate.2 =
    [0, 1, 2, 3].any (fun i => j.low.getLsbD i && !j.readP1.getLsbD i) := by
  have h : j.evaluate.2 = decide (j.low &&& ~~~j.lines ≠ 0#4) := rfl
  rw [h, fallen_eq_any]
  simp only [List.any_cons, List.any_nil, j.readP1_low (show 0 < 4 by decide),
    j.readP1_low (show 1 < 4 by decide), j.readP1_low (show 2 < 4 by decide),
    j.readP1_low (show 3 < 4 by decide)]

/-- VBlank is raised by the dot that comes to line 144, dot 0, with the LCD on (rule R824). -/
theorem Ppu.step_vblank (mem : Memory) (p : Ppu) : (p.step mem).2.1 =
    (p.lcdOn && decide ((p.step mem).1.line = 144 ∧ (p.step mem).1.dot = 0)) := by
  cases hon : p.lcdOn with
  | false => rw [Ppu.step_off mem hon]; rfl
  | true =>
    rw [Ppu.step_line mem hon, Ppu.step_dot mem hon, Ppu.step_on mem hon]
    rfl

/-- With the LCD off the STAT line is low (rule R823). -/
theorem Ppu.statLevel_off {p : Ppu} (h : p.lcdOn = false) : p.statLevel = false := by
  rw [Ppu.statLevel, h, Bool.false_and]

/-- STAT is raised by the rise of the STAT line (rule R823). -/
theorem Ppu.step_statEvent (mem : Memory) (p : Ppu) :
    (p.step mem).2.2 = (!p.statline && (p.step mem).1.statLevel) := by
  cases hon : p.lcdOn with
  | false => rw [Ppu.step_off mem hon, Ppu.statLevel_off hon, Bool.and_false]
  | true => exact (Ppu.step_stat mem hon).2

/-- The level of the STAT line, LY given by the position (rules R802, R823). -/
theorem Ppu.statLevel_position (p : Ppu) : p.statLevel = (p.lcdc.getLsbD 7 &&
    (p.statSel.getLsbD 3 &&
        decide ((if p.line = 153 ∧ p.dot = 455 then 0 else p.line) = p.lyc.toNat)
      || p.statSel.getLsbD 2 && decide (p.mode = .oamScan)
      || p.statSel.getLsbD 1 && decide (p.mode = .vblank)
      || p.statSel.getLsbD 0 && decide (p.mode = .hblank))) := by
  unfold Ppu.statLevel Ppu.coincidence Ppu.lcdOn
  rw [p.ly_eq]
  cases p.lcdc.getLsbD 7 <;> simp

/-! The bits of IF after a T-cycle. -/

section
variable (k : Nat) (s : State)

theorem State.tCycle_lcdc : (s.tCycle k).ppu.lcdc = s.ppu.lcdc := by
  rw [State.tCycle_ppu, Ppu.step_lcdc]

theorem State.tCycle_ifr_vblank : (s.tCycle k).irq.ifr.getLsbD 0 = (s.irq.ifr.getLsbD 0 ||
    (s.ppu.lcdOn && decide ((s.tCycle k).ppu.line = 144 ∧ (s.tCycle k).ppu.dot = 0))) := by
  rw [State.tCycle_irq, State.requests_bit _ _ (by decide), Ppu.step_vblank, State.tCycle_ppu]
  simp

theorem State.tCycle_ifr_stat : (s.tCycle k).irq.ifr.getLsbD 1 = (s.irq.ifr.getLsbD 1 ||
    (!s.ppu.statline && (s.tCycle k).ppu.statLevel)) := by
  rw [State.tCycle_irq, State.requests_bit _ _ (by decide), Ppu.step_statEvent, State.tCycle_ppu]
  simp

theorem State.tCycle_ifr_timer : (s.tCycle k).irq.ifr.getLsbD 2 = (s.irq.ifr.getLsbD 2 ||
    decide (s.timer.reload = 1)) := by
  rw [State.tCycle_irq, State.requests_bit _ _ (by decide), Timer.step_event]
  simp

theorem State.tCycle_ifr_serial : (s.tCycle k).irq.ifr.getLsbD 3 = (s.irq.ifr.getLsbD 3 ||
    decide (s.serial.countdown = 1)) := by
  rw [State.tCycle_irq, State.requests_bit _ _ (by decide), Serial.step_event]
  simp

theorem State.tCycle_ifr_joypad : (s.tCycle k).irq.ifr.getLsbD 4 = (s.irq.ifr.getLsbD 4 ||
    [0, 1, 2, 3].any (fun i => s.joypad.low.getLsbD i && !s.joypad.readP1.getLsbD i)) := by
  rw [State.tCycle_irq, State.requests_bit _ _ (by decide), Joypad.evaluate_event]
  simp

end

/-- Settles O37: each bit is its unit's event, and the level of the STAT line is that of the position the PPU
comes to. -/
theorem requestSources : Obligations.RequestSources := by
  unfold Obligations.RequestSources
  intro k s _ _ t p ly level off
  have hlevel : p.statLevel = level := by
    rw [p.statLevel_position, s.tCycle_lcdc k]
  refine ⟨s.tCycle_ifr_vblank k, hlevel ▸ s.tCycle_ifr_stat k, s.tCycle_ifr_timer k,
    s.tCycle_ifr_serial k, s.tCycle_ifr_joypad k, ?_, fun h => ?_, fun h => ?_⟩
  · rw [State.tCycle_irq, State.requests_ie]
  · exact (s.tCycle_ppu k).trans (congrArg Prod.fst (Ppu.step_off _ h))
  · rw [← hlevel]
    have hon := (Ppu.step_stat (s.tCycle k).mem (Bool.not_eq_false _ ▸ h : s.ppu.lcdOn = true)).1
    rwa [← State.tCycle_ppu] at hon

end Sys2Proof.Machine
end

section
/-! PROOF. The timer's overflow with its reload delay, and the CPU's writes to the timer (rules R761 to
R767). -/

namespace Sys2Proof.Machine

/-! The edge check. -/

theorem timaBumped_eq (t : Timer) : timaBumped t = t.increment := rfl

/-- The detector takes its input, and its fall increments TIMA (rules R761, R763). -/
theorem Timer.edgeCheck_eq (t : Timer) : t.edgeCheck =
    { (if t.tsig = true ∧ t.signal = false then timaBumped t else t) with tsig := t.signal } := by
  unfold Timer.edgeCheck
  rw [timaBumped_eq]
  cases t.tsig <;> cases h : t.signal <;> rfl

/-- The counter plays no part in an increment of TIMA. -/
theorem timaBumped_counter (c : Word) (t : Timer) :
    timaBumped { t with counter := c } = { timaBumped t with counter := c } := by
  unfold timaBumped
  dsimp only
  split <;> rfl

theorem timaBumped_tac (v : BitVec 3) (t : Timer) :
    timaBumped { t with tac := v } = { timaBumped t with tac := v } := by
  unfold timaBumped
  dsimp only
  split <;> rfl

/-! The reload delay. -/

theorem Timer.reloadStep_tsig (t : Timer) : t.reloadStep.1.tsig = t.tsig := by
  unfold Timer.reloadStep
  split
  · rfl
  · split <;> rfl

/-- A T-cycle of a timer in step that passes no multiple of the period makes no edge: it moves the counter and
the reload delay alone (rules R760, R761). -/
theorem Timer.step_of_no_edge {t : Timer} (hs : t.tsig = t.signal)
    (hm : (t.counter.toNat + 1) % Timer.period t.tac ≠ 0) :
    t.step.1.tima = t.reloadStep.1.tima ∧ t.step.1.reload = t.reloadStep.1.reload ∧
      t.step.1.tsig = t.step.1.signal := by
  have he := Timer.edge_iff t
  rw [← hs, decide_eq_false hm, Bool.and_false] at he
  have hsignal : ({ t.reloadStep.1 with counter := t.reloadStep.1.counter + 1#16 } : Timer).signal =
      ({ t with counter := t.counter + 1#16 } : Timer).signal := by
    unfold Timer.signal
    dsimp only
    rw [t.reloadStep_tac, t.reloadStep_counter]
  have hno : ¬(t.reloadStep.1.tsig = true ∧
      ({ t with counter := t.counter + 1#16 } : Timer).signal = false) := by
    rw [t.reloadStep_tsig]
    rintro ⟨hhigh, hlow⟩
    rw [hlow, hhigh] at he
    cases he
  have hstep : t.step.1 = { t.reloadStep.1 with
      counter := t.reloadStep.1.counter + 1#16
      tsig := ({ t with counter := t.counter + 1#16 } : Timer).signal } := by
    unfold Timer.step
    dsimp only
    rw [Timer.edgeCheck_eq, hsignal, if_neg hno]
  rw [hstep]
  exact ⟨rfl, rfl, hsignal.symm⟩

/-- A reload delay with `r` T-cycles left, which began as the counter passed a multiple of the period. -/
structure Timer.Delaying (r : Nat) (t : Timer) : Prop where
  tima : t.tima = 0x00#8
  reload : t.reload = r
  inStep : t.tsig = t.signal
  counter : (t.counter.toNat + r) % Timer.period t.tac = 4

/-- The counter comes to no multiple of the period, 16 T-cycles or more, while the delay lasts. -/
theorem Timer.Delaying.no_edge {r : Nat} {t : Timer} (h : t.Delaying (r + 1)) (hr : r ≤ 3) :
    (t.counter.toNat + 1) % Timer.period t.tac ≠ 0 := by
  have hc := h.counter
  obtain hp | hp | hp | hp := Timer.period_cases t.tac <;> rw [hp] at hc ⊢ <;> omega

/-- A T-cycle of the delay that is not its last. -/
theorem Timer.Delaying.step {r : Nat} {t : Timer} (h : t.Delaying (r + 2)) (hr : r ≤ 2) :
    t.step.1.Delaying (r + 1) := by
  obtain ⟨htima, hreload, hsig⟩ := Timer.step_of_no_edge h.inStep (h.no_edge (by omega))
  have hstep : t.reloadStep = ({ t with reload := t.reload - 1 }, false) := by
    unfold Timer.reloadStep
    rw [if_neg (by rw [h.reload]; omega), if_neg (by rw [h.reload]; omega)]
  rw [hstep] at htima hreload
  refine ⟨htima.trans h.tima, hreload.trans (by rw [h.reload]; rfl), hsig, ?_⟩
  have hc := h.counter
  rw [Timer.step_tac, Timer.step_counter, BitVec.toNat_add, show (1#16).toNat = 1 from rfl]
  obtain hp | hp | hp | hp := Timer.period_cases t.tac <;> rw [hp] at hc ⊢ <;> omega

/-- The last T-cycle of the delay: TIMA takes TMA (rule R764). -/
theorem Timer.Delaying.last {t : Timer} (h : t.Delaying 1) :
    t.step.1.tima = t.tma ∧ t.step.1.reload = 0 := by
  obtain ⟨htima, hreload, -⟩ := Timer.step_of_no_edge h.inStep (h.no_edge (by omega))
  have hstep : t.reloadStep = ({ t with reload := 0, tima := t.tma }, true) := by
    unfold Timer.reloadStep
    rw [h.reload]
    rfl
  rw [hstep] at htima hreload
  exact ⟨htima, hreload⟩

/-- A high detector is in step where the counter is about to pass a multiple of the period. -/
theorem Timer.signal_of_passing {t : Timer} (he : t.tac.getLsbD 2 = true)
    (hm : (t.counter.toNat + 1) % Timer.period t.tac = 0) : t.signal = true := by
  have h := Timer.edge_iff t
  rw [he, decide_eq_true hm, Bool.and_self, Bool.and_eq_true] at h
  exact h.1

/-- The increment of TIMA at 0xFF begins a delay of four T-cycles (rule R763). -/
theorem Timer.step_overflow {t : Timer} (ht : t.tima = 0xFF#8) (hr : t.reload = 0)
    (hs : t.tsig = true) (he : t.tac.getLsbD 2 = true)
    (hm : (t.counter.toNat + 1) % Timer.period t.tac = 0) : t.step.1.Delaying 4 := by
  obtain ⟨-, hsig, hover, -, -⟩ :=
    Timer.step_counting hr (hs.trans (Timer.signal_of_passing he hm).symm)
  obtain ⟨htima, hreload⟩ := hover he hm ht
  refine ⟨htima, hreload, hsig, ?_⟩
  rw [Timer.step_tac, Timer.step_counter, BitVec.toNat_add, show (1#16).toNat = 1 from rfl]
  obtain hp | hp | hp | hp := Timer.period_cases t.tac <;> rw [hp] at hm ⊢ <;> omega

/-- Settles O47: the overflow begins the delay, three T-cycles keep it, and the last one of it reloads. -/
theorem timerOverflow : Obligations.TimerOverflow := by
  unfold Obligations.TimerOverflow
  intro k0 k1 k2 k3 k4 s ht hr hs he hm t0 t1 t2 t3 t4
  rw [timerPeriod_eq] at hm
  have h0 : t0.timer.Delaying 4 := s.tCycle_timer k0 ▸ Timer.step_overflow ht hr hs he hm
  have h1 : t1.timer.Delaying 3 := t0.tCycle_timer k1 ▸ h0.step (by decide)
  have h2 : t2.timer.Delaying 2 := t1.tCycle_timer k2 ▸ h1.step (by decide)
  have h3 : t3.timer.Delaying 1 := t2.tCycle_timer k3 ▸ h2.step (by decide)
  have htma : t3.timer.tma = s.timer.tma := by
    simp only [t3, t2, t1, t0, State.tCycle_timer, Timer.step_tma]
  have requested {k : Nat} {u : State} {r : Nat} (hu : u.timer.Delaying r) :
      (u.tCycle k).irq.ifr.getLsbD 2 = (u.irq.ifr.getLsbD 2 || decide (r = 1)) :=
    hu.reload ▸ u.tCycle_ifr_timer k
  have hif : t3.irq.ifr.getLsbD 2 = s.irq.ifr.getLsbD 2 :=
    calc t3.irq.ifr.getLsbD 2
      _ = t2.irq.ifr.getLsbD 2 := (requested h2).trans (Bool.or_false _)
      _ = t1.irq.ifr.getLsbD 2 := (requested h1).trans (Bool.or_false _)
      _ = t0.irq.ifr.getLsbD 2 := (requested h0).trans (Bool.or_false _)
      _ = s.irq.ifr.getLsbD 2 := by
        rw [State.tCycle_ifr_timer, hr]
        exact Bool.or_false _
  obtain ⟨hlast, hreload⟩ := h3.last
  rw [← t3.tCycle_timer k4] at hlast hreload
  exact ⟨h0.tima, h0.reload, h1.tima, h2.tima, h3.tima, hif, hlast.trans htma, hreload,
    (requested h3).trans (Bool.or_true _)⟩

/-! The CPU's writes. -/

/-- A write of DIV clears the counter, which makes the detector's input low (rules R761, R762). -/
theorem Timer.clearCounter_eq (t : Timer) : t.clearCounter =
    { (if t.tsig then timaBumped t else t) with counter := 0#16, tsig := false } := by
  have hsignal : ({ t with counter := 0#16 } : Timer).signal = false := by
    simp [Timer.signal]
  unfold Timer.clearCounter
  rw [Timer.edgeCheck_eq, hsignal, timaBumped_counter]
  cases t.tsig <;> rfl

/-- A write of TAC can make the detector's input fall (rules R761, R766). -/
theorem Timer.writeTac_eq (v : Byte) (t : Timer) {sig : Bool}
    (hsig : ({ t with tac := v.setWidth 3 } : Timer).signal = sig) : t.writeTac v =
    { (if t.tsig = true ∧ sig = false then timaBumped t else t) with
      tac := v.setWidth 3, tsig := sig } := by
  have hv : v.extractLsb' 0 3 = v.setWidth 3 := by ext i hi; simp
  unfold Timer.writeTac
  rw [hv, Timer.edgeCheck_eq, hsig, timaBumped_tac]
  dsimp only
  split <;> rfl

/-- Settles O48: each write is its register's, and an edge it makes is the detector's. -/
theorem timerWrites : Obligations.TimerWrites := by
  unfold Obligations.TimerWrites
  intro v s hd t bit sig
  have reg {a : Word} {u : State} := State.busWrite_reg (a := a) (t := u) (v := v) hd
  have hsig : ({ t with tac := v.setWidth 3 } : Timer).signal = sig := by
    have hlow {i : Nat} (hi : i < 3) : (v.setWidth 3).getLsbD i = v.getLsbD i := by
      rw [BitVec.getLsbD_setWidth, decide_eq_true hi, Bool.true_and]
    have hbit : Timer.selectedBit (v.setWidth 3) = bit := by
      unfold Timer.selectedBit
      cases h1 : v.getLsbD 1 <;> cases h0 : v.getLsbD 0 <;>
        simp only [bit, hlow (show 1 < 3 by decide), hlow (show 0 < 3 by decide), h1, h0]
    exact congrArg₂ (fun on b => on && t.counter.getLsbD b) (hlow (by decide)) hbit
  refine ⟨reg (by decide) ?_, reg (by decide) rfl, reg (by decide) rfl, reg (by decide) ?_⟩
  · exact congrArg (fun t => { s with timer := t }) t.clearCounter_eq
  · exact congrArg (fun t => { s with timer := t }) (t.writeTac_eq v hsig)

end Sys2Proof.Machine
end

section
/-! PROOF. The PPU's position and the composition of a pixel (rules R800, R803, R843, R850, R860). -/

namespace Sys2Proof.Machine

/-! The position. -/

/-- `q` is the PPU `p` moved on by `n` dots (rule R800). -/
structure Ppu.MovedBy (n : Nat) (p q : Ppu) : Prop where
  place : 456 * q.line + q.dot = (456 * p.line + p.dot + n) % 70224
  line : q.line ≤ 153
  dot : q.dot ≤ 455
  lcdc : q.lcdc = p.lcdc

theorem Ppu.MovedBy.refl {p : Ppu} (hl : p.line ≤ 153) (hd : p.dot ≤ 455) : p.MovedBy 0 p :=
  ⟨by omega, hl, hd, rfl⟩

/-- A dot with the LCD on (rule R800). -/
theorem Ppu.MovedBy.step {n : Nat} {p q : Ppu} (mem : Memory) (h : p.MovedBy n q)
    (hon : p.lcdOn = true) : p.MovedBy (n + 1) (q.step mem).1 := by
  have hq : q.lcdOn = true := by rw [Ppu.lcdOn, h.lcdc]; exact hon
  obtain ⟨hplace, hline, hdot⟩ := Ppu.advance_place h.line h.dot
  have hp := h.place
  constructor
  · rw [Ppu.step_line mem hq, Ppu.step_dot mem hq, hplace]
    omega
  · rwa [Ppu.step_line mem hq]
  · rwa [Ppu.step_dot mem hq]
  · rw [Ppu.step_lcdc, h.lcdc]

/-- A property of the PPU that each dot keeps, over whatever memory, some M-cycles keep. -/
theorem State.mCycles_ppu_induction {P : Ppu → Prop} (n : Nat) {s : State} (h : P s.ppu)
    (hstep : ∀ mem p, P p → P (p.step mem).1) : P (State.mCycles n s).ppu :=
  State.mCycles_induction (P := fun u => P u.ppu) n h fun _ hu =>
    State.mCycle_induction (P := fun u => P u.ppu) hu
      (fun _ u h => u.tCycle_ppu _ ▸ hstep _ _ h) (fun _ h => h)

theorem State.mCycle_ppu_movedBy {n : Nat} {p : Ppu} {s : State} (h : p.MovedBy n s.ppu)
    (hon : p.lcdOn = true) : p.MovedBy (n + 4) s.mCycle.ppu := by
  have tick {n k : Nat} {u : State} (h : p.MovedBy n u.ppu) :
      p.MovedBy (n + 1) (u.tCycle k).ppu := u.tCycle_ppu k ▸ h.step _ hon
  exact tick (tick (tick (tick h)))

theorem State.mCycles_ppu_movedBy (n : Nat) {s : State} (hl : s.ppu.line ≤ 153)
    (hd : s.ppu.dot ≤ 455) (hon : s.ppu.lcdOn = true) :
    s.ppu.MovedBy (4 * n) (State.mCycles n s).ppu := by
  induction n with
  | zero => exact .refl hl hd
  | succ n ih =>
    rw [State.mCycles_succ]
    exact State.mCycle_ppu_movedBy ih hon

/-- With the LCD off the PPU stands (rule R860). -/
theorem State.mCycles_ppu_off (n : Nat) {s : State} (h : s.ppu.lcdOn = false) :
    (State.mCycles n s).ppu = s.ppu :=
  State.mCycles_ppu_induction (P := fun p => p = s.ppu) n rfl fun mem p hp => by
    rw [Ppu.step_off mem (hp ▸ h), hp]

/-- Settles O49: n M-cycles are 4 n dots, each of which moves the PPU by one or leaves it. -/
theorem ppuPosition : Obligations.PpuPosition := by
  unfold Obligations.PpuPosition
  intro n s hl hd t
  refine ⟨fun hon => ?_, State.mCycles_ppu_off n⟩
  obtain ⟨hplace, hline, hdot, hlcdc⟩ := State.mCycles_ppu_movedBy n hl hd hon
  exact ⟨hplace, hline, hdot, hlcdc⟩

/-! The composition of a pixel. -/

/-- A colour's shade is bits 2 c + 1 and 2 c of the palette (rule R850). -/
theorem Ppu.paletteShade_toNat (pal : Byte) (c : Shade) :
    (Ppu.paletteShade pal c).toNat = pal.toNat / 4 ^ c.toNat % 4 := by
  rw [Ppu.paletteShade, BitVec.toNat_setWidth, BitVec.toNat_ushiftRight, Nat.shiftRight_eq_div_pow,
    Nat.pow_mul]

/-- The background's shade, with its colour where LCDC bit 0 shows it (rule R843). -/
theorem Ppu.compose_background {bc : Shade} {p : Ppu} :
    (p.compose bc none).toNat = if p.lcdc.getLsbD 0 then
      p.bgp.toNat / 4 ^ (if p.lcdc.getLsbD 0 then bc else 0#2).toNat % 4 else 0 := by
  unfold Ppu.compose
  dsimp only
  split
  · exact Ppu.paletteShade_toNat _ _
  · rfl

/-- A sprite pixel is the one composed where it shows, and leaves the background's where not (rule R843). -/
theorem Ppu.compose_sprite (bc : Shade) (x : SpritePixel) (p : Ppu) : p.compose bc (some x) =
    if p.spriteShows (if p.lcdc.getLsbD 0 then bc else 0#2) x then
      Ppu.paletteShade (if x.pal then p.obp1 else p.obp0) x.color else p.compose bc none := rfl

theorem Ppu.spriteShows_iff {c : Shade} {x : SpritePixel} {p : Ppu} : p.spriteShows c x = true ↔
    x.color ≠ 0#2 ∧ p.lcdc.getLsbD 1 = true ∧ (x.bgpri = true → c = 0#2) := by
  unfold Ppu.spriteShows
  cases x.bgpri <;> simp [and_assoc]

/-- Settles O51: by whether there is a sprite pixel, and whether it shows. -/
theorem pixelComposition : Obligations.PixelComposition := by
  unfold Obligations.PixelComposition
  intro bc sp p shade c background
  have hbg : (p.compose bc none).toNat = background := Ppu.compose_background
  refine ⟨fun h => h ▸ hbg, fun x h => ⟨fun hx => ?_, fun hcolor hon hpri => ?_⟩⟩
  · have hhidden : ¬p.spriteShows c x = true := by
      rw [Ppu.spriteShows_iff]
      rintro ⟨hcolor, hon, hpri⟩
      obtain hx | hx | ⟨hb, hc⟩ := hx
      · exact hcolor hx
      · exact Bool.false_ne_true (hx.symm.trans hon)
      · exact hc (hpri hb)
    rw [h, Ppu.compose_sprite, if_neg hhidden, hbg]
  · rw [h, Ppu.compose_sprite, if_pos (Ppu.spriteShows_iff.mpr ⟨hcolor, hon, hpri⟩)]
    exact Ppu.paletteShade_toNat _ _

end Sys2Proof.Machine
end

section
/-! PROOF. The LCD turned off and on by a write of LCDC (rules R823, R847, R860, R861). -/

namespace Sys2Proof.Machine

/-- What the OAM scan of a dot writes (rule R810). -/
theorem Ppu.oamScanStep_eq (mem : Memory) (p : Ppu) :
    p.oamScanStep mem = { p with sprites := (p.oamScanStep mem).sprites } := by
  unfold Ppu.oamScanStep
  dsimp only
  split <;> rfl

/-- The first dot of a frame begins mode 2 (rules R801, R847, R861). -/
theorem Ppu.turnOn_eq (mem : Memory) (p : Ppu) : p.turnOn mem = { p with
    line := 0, dot := 0, wline := 0, mode := .oamScan, skipframe := true
    sprites := (p.turnOn mem).sprites } := by
  have henter : Ppu.enterDot { p with line := 0, dot := 0, wline := 0 } =
      { p with line := 0, dot := 0, wline := 0, mode := .oamScan, sprites := [] } := rfl
  unfold Ppu.turnOn Ppu.dotWork
  dsimp only
  rw [henter, Ppu.modeWork, Ppu.oamScanStep_eq]

/-- Where the first frame starts (rules R847, R861). -/
theorem Ppu.turnOn_start (mem : Memory) (p : Ppu) : (p.turnOn mem).line = 0 ∧
    (p.turnOn mem).dot = 0 ∧ (p.turnOn mem).mode = .oamScan ∧ (p.turnOn mem).wline = 0 ∧
    (p.turnOn mem).skipframe = true := by
  rw [Ppu.turnOn_eq]
  exact ⟨rfl, rfl, rfl, rfl, rfl⟩

section
variable {v : Byte} {p : Ppu} (mem : Memory)

/-- The LCD turned off leaves the STAT line low and raises nothing (rules R823, R860). -/
theorem Ppu.writeLcdc_off (hon : p.lcdc.getLsbD 7 = true) (hv : v.getLsbD 7 = false) :
    p.writeLcdc mem v = (Ppu.turnOff { p with lcdc := v }, false) := by
  have hlevel : Ppu.statLevel (Ppu.turnOff { p with lcdc := v }) = false := Ppu.statLevel_off hv
  unfold Ppu.writeLcdc Ppu.lcdOn
  rw [hon, hv]
  show Ppu.updateStat (Ppu.turnOff { p with lcdc := v }) = _
  rw [Ppu.updateStat, hlevel, Bool.and_false]
  rfl

/-- The STAT line where the LCD has been turned on: LY is 0 and the mode 2 (rules R823, R861). -/
theorem Ppu.statLevel_turnOn (hv : p.lcdc.getLsbD 7 = true) : (p.turnOn mem).statLevel =
    (p.statSel.getLsbD 3 && decide (p.lyc = 0x00#8) || p.statSel.getLsbD 2) := by
  have hlyc : (0 = p.lyc.toNat) ↔ p.lyc = 0x00#8 :=
    eq_comm.trans (BitVec.toNat_eq (y := 0x00#8)).symm
  rw [Ppu.turnOn_eq, Ppu.statLevel_position]
  simp [hv, hlyc]

/-- The LCD turned on evaluates the STAT line where the first frame starts (rules R823, R861). -/
theorem Ppu.writeLcdc_on {level : Bool} (hoff : p.lcdc.getLsbD 7 = false) (hv : v.getLsbD 7 = true)
    (hl : (Ppu.turnOn mem { p with lcdc := v }).statLevel = level) : p.writeLcdc mem v =
      ({ Ppu.turnOn mem { p with lcdc := v } with statline := level }, !p.statline && level) := by
  have hline : (Ppu.turnOn mem { p with lcdc := v }).statline = p.statline := by
    rw [Ppu.turnOn_eq]
  have hwrite : p.writeLcdc mem v = Ppu.updateStat (Ppu.turnOn mem { p with lcdc := v }) := by
    unfold Ppu.writeLcdc Ppu.lcdOn
    rw [hoff, hv]
    rfl
  rw [hwrite, Ppu.updateStat, hl, hline]

/-- No write of LCDC writes the framebuffer. -/
theorem Ppu.writeLcdc_fb (v : Byte) (p : Ppu) : (p.writeLcdc mem v).1.fb = p.fb := by
  by_cases hsame : v.getLsbD 7 = p.lcdc.getLsbD 7
  · rw [Ppu.writeLcdc_same mem hsame]
    rfl
  · cases hp : p.lcdc.getLsbD 7 with
    | false =>
      have hv : v.getLsbD 7 = true := Bool.eq_true_of_not_eq_false (hp ▸ hsame)
      rw [Ppu.writeLcdc_on mem hp hv rfl, Ppu.turnOn_eq]
    | true =>
      have hv : v.getLsbD 7 = false := Bool.eq_false_of_not_eq_true (hp ▸ hsame)
      rw [Ppu.writeLcdc_off mem hp hv]
      rfl

end

/-- Settles O52: a write that turns the LCD off or on is `turnOff` or `turnOn`, and the STAT line there. -/
theorem lcdOffAndOn : Obligations.LcdOffAndOn := by
  unfold Obligations.LcdOffAndOn
  intro v s hd t p coinc level
  have ht : t = s.setPpu (s.ppu.writeLcdc s.mem v) := State.busWrite_reg hd (by decide) rfl
  have hp : p = (s.ppu.writeLcdc s.mem v).1 := congrArg State.ppu ht
  refine ⟨(congrArg Ppu.lcdc hp).trans (Ppu.lcdc_of_regs (Ppu.regs_writeLcdc s.mem v s.ppu)),
    (congrArg Ppu.fb hp).trans (Ppu.writeLcdc_fb s.mem v s.ppu), by rw [ht]; rfl,
    fun hon hv => ?_, fun hoff hv => ?_⟩
  · rw [hp, ht, Ppu.writeLcdc_off s.mem hon hv]
    exact ⟨rfl, rfl⟩
  · have hwrite := Ppu.writeLcdc_on s.mem hoff hv (Ppu.statLevel_turnOn s.mem hv)
    rw [hwrite] at hp ht
    obtain ⟨hline, hdot, hmode, hwline, hskip⟩ := Ppu.turnOn_start s.mem { s.ppu with lcdc := v }
    rw [hp]
    dsimp only
    refine ⟨hline, hdot, hmode, hwline, hskip, rfl, ?_⟩
    rw [ht, State.setPpu_irq, Interrupts.request_bit (by decide) _ _ _ (by decide)]
    exact congrArg (s.irq.ifr.getLsbD 1 || ·) (Bool.and_true _)

end Sys2Proof.Machine
end

section
/-! PROOF. The OAM scan (rules R801, R810): dot by dot, mode 2 has selected the first ten on the line of the
entries it has looked at. -/

namespace Sys2Proof.Machine

/-! The first ten. -/

/-- Whether entry `n` is on line `row`, for sprites of height `tall` (rule R810). -/
def entryOnLine (mem : Memory) (row tall n : Nat) : Bool :=
  decide ((Cells.read mem (0xFE00 + 4 * n)).toNat ≤ row + 16) &&
    decide (row + 16 < (Cells.read mem (0xFE00 + 4 * n)).toNat + tall)

/-- The first ten of the first `n` entries that are on the line. -/
def selected (mem : Memory) (row tall n : Nat) : List Nat :=
  ((List.range n).filter (entryOnLine mem row tall)).take Config.spritesPerLine

/-- One more entry looked at is selected when it is on the line and there is room (rule R810). -/
theorem selected_succ (mem : Memory) (row tall n : Nat) : selected mem row tall (n + 1) =
    if (selected mem row tall n).length < Config.spritesPerLine ∧ entryOnLine mem row tall n = true
    then selected mem row tall n ++ [n] else selected mem row tall n := by
  unfold selected
  generalize entryOnLine mem row tall = f
  rw [List.range_succ, List.filter_append, List.take_append, List.length_take]
  by_cases hroom : ((List.range n).filter f).length < Config.spritesPerLine
  · have htake : ([n] : List Nat).take
        (Config.spritesPerLine - ((List.range n).filter f).length) = [n] :=
      List.take_of_length_le (by rw [List.length_singleton]; omega)
    cases hf : f n <;> simp [hf, hroom, htake]
  · simp [hroom, Nat.sub_eq_zero_of_le (Nat.le_of_not_lt hroom)]

/-! The dots of mode 2. -/

/-- The PPU is in mode 2 on dot `d` of the visible line `row`, and has looked at the first `n` entries. -/
structure Ppu.Scanning (mem : Memory) (row tall d n : Nat) (p : Ppu) : Prop where
  on : p.lcdOn = true
  height : p.spriteHeight = tall
  visible : row < 144
  line : p.line = row
  dot : p.dot = d
  mode : p.mode = .oamScan
  sprites : p.sprites = selected mem row tall n

/-- The first dot of a visible line begins mode 2 (rules R801, R847). -/
theorem Ppu.enterDot_first {p : Ppu} (hl : p.line < 144) (hd : p.dot = 0) : p.enterDot = { p with
    mode := .oamScan, sprites := [], wline := if p.line = 0 then 0 else p.wline } := by
  have hscan : p.enterScan = { p with mode := .oamScan, sprites := [] } := if_pos ⟨hl, hd⟩
  have hdrawing : p.enterScan.enterDrawing = p.enterScan :=
    if_neg (by rw [hscan]; dsimp only; omega)
  have hvblank : p.enterScan.enterVblank = p.enterScan :=
    if_neg (by rw [hscan, Ppu.vblankStarts_iff]; dsimp only; omega)
  rw [Ppu.enterDot, hdrawing, hvblank, hscan, Ppu.restartWindowLines]
  dsimp only
  by_cases h0 : p.line = 0
  · rw [if_pos ⟨h0, hd⟩, if_pos h0]
  · rw [if_neg (fun h => h0 h.1), if_neg h0]

/-- The mode changes on no dot of a visible line but 0 and 80 (rule R801). -/
theorem Ppu.enterDot_inside {p : Ppu} (hl : p.line < 144) (h0 : p.dot ≠ 0) (h80 : p.dot ≠ 80) :
    p.enterDot = p := by
  have hscan : p.enterScan = p := if_neg (fun h => h0 h.2)
  have hdrawing : p.enterDrawing = p := if_neg (fun h => h80 h.2)
  have hvblank : p.enterVblank = p := if_neg (by rw [Ppu.vblankStarts_iff]; omega)
  have hlines : p.restartWindowLines = p := if_neg (fun h => h0 h.2)
  rw [Ppu.enterDot, hscan, hdrawing, hvblank, hlines]

section
variable {mem : Memory} {row tall d n : Nat} {p : Ppu}

/-- The PPU looks at entry `d / 2` on an even dot `d` (rule R810). -/
theorem Ppu.Scanning.oamScanStep (h : p.Scanning mem row tall d ((d + 1) / 2)) (hd : d < 80) :
    (p.oamScanStep mem).Scanning mem row tall d (d / 2 + 1) := by
  have hsprites : (p.oamScanStep mem).sprites = selected mem row tall (d / 2 + 1) := by
    have hentry : Ppu.onLine mem (d / 2) p = entryOnLine mem row tall (d / 2) := by
      unfold Ppu.onLine entryOnLine Ppu.oam
      rw [Ppu.ly_eq_line h.on (h.line ▸ h.visible), h.line, h.height]
    unfold Ppu.oamScanStep
    dsimp only
    rw [h.dot, hentry, h.sprites]
    rcases Nat.mod_two_eq_zero_or_one d with heven | hodd
    · have hn : (d + 1) / 2 = d / 2 := by omega
      rw [hn, selected_succ]
      have hlt : d / 2 < 40 := by omega
      simp only [heven, hlt, true_and]
      split
      · rfl
      · exact h.sprites.trans (by rw [hn])
    · have hn : (d + 1) / 2 = d / 2 + 1 := by omega
      rw [if_neg (by omega), h.sprites, hn]
  rw [Ppu.oamScanStep_eq, hsprites]
  exact ⟨h.on, h.height, h.visible, h.line, h.dot, h.mode, rfl⟩

/-- The dot's work in mode 2, after the dot has been entered (rules R801, R823). -/
theorem Ppu.Scanning.work (hon : p.lcdOn = true)
    (h : p.advance.enterDot.Scanning mem row tall d ((d + 1) / 2)) (hd : d < 80) :
    (p.step mem).1.Scanning mem row tall d (d / 2 + 1) := by
  have hwork : (p.advance.dotWork mem).1 = p.advance.enterDot.oamScanStep mem := by
    unfold Ppu.dotWork Ppu.modeWork
    rw [h.mode]
  have hs := h.oamScanStep hd
  rw [Ppu.step_on mem hon, hwork]
  generalize p.advance.enterDot.oamScanStep mem = q at hs
  exact ⟨hs.on, hs.height, hs.visible, hs.line, hs.dot, hs.mode, hs.sprites⟩

/-- From a dot of mode 2 to the next (rule R800). -/
theorem Ppu.Scanning.next (h : p.Scanning mem row tall d n) (hd : d < 79) :
    p.advance.enterDot.Scanning mem row tall (d + 1) n := by
  have hadvance : p.advance = { p with dot := d + 1 } := by
    unfold Ppu.advance Config.dotsPerLine
    rw [h.dot, if_neg (by omega)]
  rw [hadvance, Ppu.enterDot_inside (by rw [h.line]; exact h.visible) (Nat.succ_ne_zero d)
    (by dsimp only; omega)]
  exact ⟨h.on, h.height, h.visible, h.line, rfl, h.mode, h.sprites⟩

/-- From the dot before a visible line to its first (rule R800). -/
theorem Ppu.Scanning.first (hon : p.lcdOn = true) (hd : p.dot = 455)
    (hl : p.line < 143 ∨ p.line = 153) :
    p.advance.enterDot.Scanning mem (if p.line = 153 then 0 else p.line + 1) p.spriteHeight 0 0 := by
  have hadvance : p.advance = { p with
      dot := 0
      wline := if p.wtrig then p.wline + 1 else p.wline
      wtrig := false
      line := if p.line + 1 = Config.linesPerFrame then 0 else p.line + 1 } :=
    if_pos (by rw [hd]; rfl)
  have hline : (if p.line + 1 = Config.linesPerFrame then 0 else p.line + 1) =
      if p.line = 153 then 0 else p.line + 1 := by
    simp [Config.linesPerFrame]
  have hvisible : (if p.line = 153 then 0 else p.line + 1) < 144 := by split <;> omega
  rw [hadvance, hline, Ppu.enterDot_first hvisible rfl]
  exact ⟨hon, rfl, hvisible, rfl, rfl, rfl, rfl⟩

end

theorem ppuAfter_succ (mem : Memory) (n : Nat) (p : Ppu) :
    ppuAfter mem (n + 1) p = ((ppuAfter mem n p).step mem).1 := by
  induction n generalizing p with
  | zero => rfl
  | succ n ih => exact ih (p.step mem).1

/-- From the dot before a visible line, `d + 1` dots bring the PPU to dot `d` of mode 2. -/
theorem ppuAfter_scanning {mem : Memory} {p : Ppu} (hon : p.lcdOn = true) (hd : p.dot = 455)
    (hl : p.line < 143 ∨ p.line = 153) {d : Nat} (hlt : d < 80) :
    (ppuAfter mem (d + 1) p).Scanning mem (if p.line = 153 then 0 else p.line + 1) p.spriteHeight
      d (d / 2 + 1) := by
  induction d with
  | zero => exact (Ppu.Scanning.first hon hd hl).work hon hlt
  | succ d ih =>
    have h := ih (by omega)
    have hn := h.next (by omega)
    rw [show d / 2 + 1 = (d + 1 + 1) / 2 by omega] at hn
    rw [ppuAfter_succ]
    exact hn.work h.on hlt

/-- Settles O50: on dot 79 of mode 2 all forty entries have been looked at. -/
theorem oamScanSelects : Obligations.OamScanSelects := by
  unfold Obligations.OamScanSelects
  intro mem p hon hd hl q line height
  have h : q.Scanning mem line height 79 40 := ppuAfter_scanning hon hd hl (by decide)
  exact ⟨h.line, h.dot, h.mode, h.sprites⟩

end Sys2Proof.Machine
end

section
/-! PROOF. What a dot of the PPU reads of memory (rules R810, R832, R833, R841, R863): every address is one of
VRAM or OAM, so two memories that agree there give the same dot. -/

namespace Sys2Proof.Machine

/-- Two memories that agree on VRAM and OAM. -/
def SameVideo (m1 m2 : Memory) : Prop :=
  ∀ k, 0x8000 ≤ k ∧ k < 0xA000 ∨ 0xFE00 ≤ k ∧ k < 0xFEA0 → Cells.read m1 k = Cells.read m2 k

/-! The addresses. -/

/-- A tile map's address is one of VRAM (rule R832). -/
theorem Ppu.mapAddr_vram {p : Ppu} (hw : p.wline < 144) : 0x8000 ≤ p.mapAddr ∧ p.mapAddr < 0xA000 := by
  have hbase (b : Bool) : 0x9800 ≤ Ppu.mapBase b ∧ Ppu.mapBase b ≤ 0x9C00 := by
    cases b <;> decide
  have hwin := hbase (p.lcdc.getLsbD 6)
  have hbg := hbase (p.lcdc.getLsbD 3)
  unfold Ppu.mapAddr
  split <;> omega

/-- The row is masked to the sprite's height (rule R841). -/
theorem Ppu.spriteRow_lt (y attr : Byte) (p : Ppu) : p.spriteRow y attr < p.spriteHeight := by
  have hheight : p.spriteHeight = 16 ∨ p.spriteHeight = 8 := by
    unfold Ppu.spriteHeight
    split <;> simp
  have hmask (x : Word) :
      (x &&& BitVec.ofNat 16 (p.spriteHeight - 1)).toNat ≤ p.spriteHeight - 1 := by
    rw [BitVec.toNat_and]
    exact Nat.and_le_right.trans (Nat.mod_le _ _)
  have hrow := hmask (BitVec.ofNat 16 (p.ly + 16) - y.setWidth 16)
  unfold Ppu.spriteRow
  dsimp only
  split <;> omega

/-- A sprite's row is in the lower half of VRAM's tiles (rule R841). -/
theorem Ppu.spriteAddr_vram (y tile attr : Byte) (p : Ppu) :
    0x8000 ≤ p.spriteAddr y tile attr ∧ p.spriteAddr y tile attr + 1 < 0xA000 := by
  have hrow := p.spriteRow_lt y attr
  have hheight : p.spriteHeight ≤ 16 := by unfold Ppu.spriteHeight; split <;> decide
  unfold Ppu.spriteAddr
  dsimp only
  have ht := (if p.lcdc.getLsbD 2 then tile &&& 0xFE#8 else tile).isLt
  omega

/-! The reads. -/

section
variable {m1 m2 : Memory} (h : SameVideo m1 m2) {p : Ppu}
include h

theorem SameVideo.vread {a : Nat} (ha : 0x8000 ≤ a ∧ a < 0xA000) :
    Ppu.vread m1 a = Ppu.vread m2 a := h a (.inl ha)

theorem SameVideo.oam {i : Nat} (hi : i < 160) : Ppu.oam m1 i = Ppu.oam m2 i :=
  h _ (.inr (by omega))

theorem SameVideo.onLine {n : Nat} (hn : n < 40) : Ppu.onLine m1 n p = Ppu.onLine m2 n p := by
  unfold Ppu.onLine
  rw [h.oam (by omega)]

theorem SameVideo.oamScanStep : p.oamScanStep m1 = p.oamScanStep m2 := by
  unfold Ppu.oamScanStep
  dsimp only
  by_cases hn : p.dot / 2 < 40
  · rw [h.onLine hn]
  · rw [if_neg (fun hc => hn hc.2.1), if_neg (fun hc => hn hc.2.1)]

/-! The fetcher. -/

theorem SameVideo.readTileNumber (hw : p.wline < 144) :
    p.readTileNumber m1 = p.readTileNumber m2 := by
  unfold Ppu.readTileNumber
  rw [h.vread (Ppu.mapAddr_vram hw)]

theorem SameVideo.readTileLow : p.readTileLow m1 = p.readTileLow m2 := by
  have ha := Ppu.tileRow_lt p.tileNo p p.fineRow p.fineRow_lt
  unfold Ppu.readTileLow
  dsimp only
  rw [h.vread ⟨ha.1, by omega⟩]

theorem SameVideo.readTileHigh (ha : 0x8000 ≤ p.taddr.toNat ∧ p.taddr.toNat < 0x97FF) :
    p.readTileHigh m1 = p.readTileHigh m2 := by
  have hsucc : (p.taddr + 1#16).toNat = p.taddr.toNat + 1 := by
    rw [BitVec.toNat_add, show (1#16).toNat = 1 from rfl]
    omega
  unfold Ppu.readTileHigh
  rw [h.vread (by omega)]

theorem SameVideo.fetcherStep (hp : p.Parts) (hw : p.wline < 144) :
    p.fetcherStep m1 = p.fetcherStep m2 := by
  unfold Ppu.fetcherStep
  cases hf : p.fst with
  | dummy => rfl
  | tileNumber => dsimp only; rw [h.readTileNumber hw]
  | tileDataLow => dsimp only; rw [h.readTileLow]
  | tileDataHigh => dsimp only; rw [h.readTileHigh (hp.latch (.inr hf))]
  | push => rfl

/-! The window and the sprites. -/

theorem SameVideo.startWindow (hw : p.wline < 144) : p.startWindow m1 = p.startWindow m2 := by
  have hread := h.vread (Ppu.mapAddr_vram
    (p := { p with bgq := [], winmode := true, wtrig := true, fx := 0 }) hw)
  unfold Ppu.startWindow
  dsimp only
  rw [hread]

theorem SameVideo.triggers {n : Nat} (hn : n < 40) : p.triggers m1 n = p.triggers m2 n := by
  unfold Ppu.triggers
  rw [h.oam (by omega)]

theorem SameVideo.nextSprite (hs : ∀ n ∈ p.sprites, n < 40) : p.nextSprite m1 = p.nextSprite m2 := by
  unfold Ppu.nextSprite
  rw [List.find?_congr (fun n hn => h.triggers (hs n hn))]

theorem SameVideo.spriteFetch {n : Nat} (hn : n < 40) : p.spriteFetch m1 n = p.spriteFetch m2 n := by
  unfold Ppu.spriteFetch
  dsimp only
  rw [h.oam (i := 4 * n) (by omega), h.oam (i := 4 * n + 1) (by omega),
    h.oam (i := 4 * n + 2) (by omega), h.oam (i := 4 * n + 3) (by omega)]
  have ha := p.spriteAddr_vram (Ppu.oam m2 (4 * n)) (Ppu.oam m2 (4 * n + 2)) (Ppu.oam m2 (4 * n + 3))
  rw [h.vread ⟨ha.1, by omega⟩, h.vread (a := _ + 1) ⟨by omega, ha.2⟩]

/-! The dot. -/

theorem SameVideo.pixelStep (hw : p.wline < 144) (hs : ∀ n ∈ p.sprites, n < 40) :
    p.pixelStep m1 = p.pixelStep m2 := by
  unfold Ppu.pixelStep
  rw [h.startWindow hw, h.nextSprite hs]

theorem SameVideo.mode3Dot (hp : p.Parts) (hw : p.wline < 144) : p.mode3Dot m1 = p.mode3Dot m2 := by
  have hstill := Ppu.still_fetcherStep m2 p
  unfold Ppu.mode3Dot
  rw [h.fetcherStep hp hw, h.spriteFetch hp.cursor,
    h.pixelStep (by rwa [Ppu.still_wline hstill]) (hp.fetcherStep m2).indices]

/-- The work of a dot whose mode has been entered. -/
theorem SameVideo.modeWork (he : p.Entered) : p.modeWork m1 = p.modeWork m2 := by
  have hmode := he.mode
  have hw := he.wline
  unfold Ppu.modeWork
  cases hm : p.mode with
  | hblank => rfl
  | vblank => rfl
  | oamScan => exact h.oamScanStep
  | drawing =>
    rw [hm] at hmode
    dsimp only
    rw [h.mode3Dot he.parts (Nat.lt_of_le_of_lt hw hmode.1)]

theorem SameVideo.step (hp : p.Inv) : p.step m1 = p.step m2 := by
  cases hon : p.lcdOn with
  | false => rw [Ppu.step_off m1 hon, Ppu.step_off m2 hon]
  | true =>
    rw [Ppu.step_on m1 hon, Ppu.step_on m2 hon]
    unfold Ppu.dotWork
    rw [h.modeWork (hp.advance hon).enterDot]

end

/-- Settles O53: every read of a dot is of VRAM or OAM. -/
theorem ppuReadsVideoMemoryOnly : Obligations.PpuReadsVideoMemoryOnly := by
  unfold Obligations.PpuReadsVideoMemoryOnly
  exact fun m1 m2 p hp h => SameVideo.step h hp

end Sys2Proof.Machine
end

section
/-! PROOF. A serial transfer (rule R871): its T-cycles counted down, and what its last one leaves. -/

namespace Sys2Proof.Machine

/-! The port's T-cycles. -/

/-- Some T-cycles of the serial port. -/
def Serial.after (n : Nat) (p : Serial) : Serial := (fun q : Serial => q.step.1)^[n] p

theorem Serial.after_succ (n : Nat) (p : Serial) : Serial.after (n + 1) p = (Serial.after n p).step.1 :=
  Function.iterate_succ_apply' _ n p

/-- No T-cycle changes what the host was given or the clock chosen. -/
theorem Serial.after_out (n : Nat) (p : Serial) :
    (Serial.after n p).out = p.out ∧ (Serial.after n p).internal = p.internal := by
  induction n with
  | zero => exact ⟨rfl, rfl⟩
  | succ n ih =>
    rw [Serial.after_succ, Serial.step_out, Serial.step_internal]
    exact ih

theorem Serial.after_idle {p : Serial} (h : p.countdown = 0) (n : Nat) : Serial.after n p = p :=
  Function.iterate_fixed (congrArg Prod.fst (if_pos h)) n

/-- A transfer with T-cycles left after `n` of them. -/
theorem Serial.after_counting {n : Nat} {p : Serial} (h : n < p.countdown) :
    Serial.after n p = { p with countdown := p.countdown - n } := by
  induction n with
  | zero => rfl
  | succ n ih =>
    rw [Serial.after_succ, ih (by omega), Serial.step]
    dsimp only
    rw [if_neg (by omega), if_neg (by omega), Nat.sub_sub]

/-- The last T-cycle of a transfer: SB takes `SERIAL_IN` and SC[7] is cleared (rule R871). -/
theorem Serial.after_last {n : Nat} {p : Serial} (h : p.countdown = n + 1) :
    Serial.after (n + 1) p = { p with countdown := 0, sb := p.input, start := false } := by
  have hone : p.countdown - n = 1 := by omega
  rw [Serial.after_succ, Serial.after_counting (by omega), hone]
  rfl

/-! The port in an M-cycle. -/

theorem State.mCycle_serial (s : State) : s.mCycle.serial = Serial.after 4 s.serial := by
  simp [State.mCycle, Serial.after]

theorem State.mCycles_serial (n : Nat) (s : State) :
    (State.mCycles n s).serial = Serial.after (4 * n) s.serial := by
  induction n generalizing s with
  | zero => rfl
  | succ n ih =>
    rw [State.mCycles, ih, State.mCycle_serial, Nat.mul_succ]
    exact (Function.iterate_add_apply _ _ _ _).symm

/-- The M-cycle in which a transfer has four T-cycles left requests its interrupt (rule R871). -/
theorem State.mCycle_ifr_serial {s : State} (h : s.serial.countdown = 4) :
    s.mCycle.irq.ifr.getLsbD 3 = true := by
  have hu : (((s.tCycle 0).tCycle 1).tCycle 2).serial = Serial.after 3 s.serial := by
    simp [Serial.after]
  have hone : (((s.tCycle 0).tCycle 1).tCycle 2).serial.countdown = 1 := by
    rw [hu, Serial.after_counting (by omega), h]
  rw [State.mCycle, State.endMCycle_irq, State.tCycle_ifr_serial, hone]
  exact Bool.or_true _

/-- A transfer is over at the end of its last M-cycle, which requests the interrupt (rule R871). -/
theorem State.mCycles_transfer {n : Nat} {s : State} (hn : n ≠ 0) (h : s.serial.countdown = 4 * n) :
    (State.mCycles n s).serial =
        { s.serial with countdown := 0, sb := s.serial.input, start := false } ∧
      (State.mCycles n s).irq.ifr.getLsbD 3 = true := by
  obtain ⟨m, rfl⟩ := Nat.exists_eq_succ_of_ne_zero hn
  constructor
  · rw [State.mCycles_serial]
    exact Serial.after_last (n := 4 * m + 3) h
  · rw [State.mCycles_succ]
    refine State.mCycle_ifr_serial ?_
    rw [State.mCycles_serial, Serial.after_counting (by omega), h]
    dsimp only
    omega

/-! The write of SC. -/

theorem Serial.writeSc_starts {v : Byte} (p : Serial) (h7 : v.getLsbD 7 = true)
    (h0 : v.getLsbD 0 = true) : p.writeSc v =
      { p with start := true, internal := true, countdown := 4096, out := p.out ++ [p.sb] } :=
  if_pos (by rw [h7, h0]; rfl)

theorem Serial.writeSc_external {v : Byte} (p : Serial) (h0 : v.getLsbD 0 = false) :
    p.writeSc v = { p with start := v.getLsbD 7, internal := false, countdown := 0 } := by
  rw [Serial.writeSc, h0, Bool.and_false]
  rfl

/-- Settles O55: 1024 M-cycles are the 4096 T-cycles of the transfer, the last of which requests the
interrupt. -/
theorem serialTransfer : Obligations.SerialTransfer := by
  unfold Obligations.SerialTransfer
  intro v n s hd t
  have hwrite : (s.busWrite 0xFF02#16 v).serial = s.serial.writeSc v :=
    congrArg State.serial (State.busWrite_reg hd (by decide) rfl)
  have ht : t.serial = Serial.after (4 * n) (s.serial.writeSc v) := hwrite ▸ State.mCycles_serial n _
  refine ⟨fun h7 h0 => ?_, fun h0 => ?_⟩
  · have hstart := s.serial.writeSc_starts h7 h0
    obtain ⟨hout, hinternal⟩ := Serial.after_out (4 * n) (s.serial.writeSc v)
    rw [← ht, hstart] at hout hinternal
    refine ⟨hout, hinternal, fun hn => ?_, fun hn => ?_⟩
    · rw [ht, Serial.after_counting (by rw [hstart]; dsimp only; omega), hstart]
      exact ⟨rfl, rfl⟩
    · obtain ⟨hserial, hif⟩ := State.mCycles_transfer (n := n) (s := s.busWrite 0xFF02#16 v)
        (by omega) (by rw [hwrite, hstart, hn])
      rw [hwrite, hstart] at hserial
      exact ⟨congrArg Serial.sb hserial, congrArg Serial.start hserial, hif⟩
  · rw [ht, s.serial.writeSc_external h0, Serial.after_idle rfl]

end Sys2Proof.Machine
end

section
/-! PROOF. What a reset leaves (rules R900 to R904, R911): memory range by range, and every register as it
reads. -/

namespace Sys2Proof.Machine

/-! Memory. -/

/-- Where an overlay's test passes, the last entry listed for the key is read. -/
theorem Cells.read_overlay_of_keep {w : Nat} {keep : Nat → Bool} {k : Nat} (hk : keep k = true)
    (r m : Cells w) : Cells.read (Cells.overlay keep m r) k =
      r.foldl (fun v x => if x.1 = k then x.2 else v) (Cells.read m k) := by
  induction r generalizing m with
  | nil => rfl
  | cons e r ih =>
    rw [List.foldl_cons]
    by_cases he : e.1 = k
    · have hkeep : keep e.1 = true := he ▸ hk
      rw [Cells.overlay, if_pos hkeep, ih, if_pos he, ← he, Cells.read_write_same]
    · rw [if_neg he, Cells.overlay]
      split
      · rw [ih, Cells.read_write_other _ _ (Ne.symm he)]
      · exact ih m

section
variable (ram : List Host.Cell) (m : Memory) {k : Nat}

/-- VRAM and OAM are zero after a reset (rule R903). -/
theorem Memory.read_reset_video (hk : 0x8000 ≤ k ∧ k < 0xA000 ∨ 0xFE00 ≤ k ∧ k < 0xFEA0) :
    Cells.read (Memory.reset ram m) k = 0x00#8 := by
  have hram : (inWram k || inHram k) = false := by simp [inWram, inHram]; omega
  have hcart : ¬inCart k = true := by rw [inCart_iff]; omega
  rw [Memory.reset, Cells.read_overlay_of_not_keep hram, Cells.read_restrict, if_neg hcart]

/-- WRAM and HRAM hold the draw after a reset (rule R903). -/
theorem Memory.read_reset_ram (hk : 0xC000 ≤ k ∧ k < 0xE000 ∨ 0xFF80 ≤ k ∧ k < 0xFFFF) :
    Cells.read (Memory.reset ram m) k = ramInitByte ram k := by
  have hram : (inWram k || inHram k) = true := by simpa [inWram, inHram] using hk
  have hcart : ¬inCart k = true := by rw [inCart_iff]; omega
  rw [Memory.reset, Cells.read_overlay_of_keep hram, Cells.read_restrict, if_neg hcart, ramInitByte]

/-- A reset keeps the cartridge's bytes (rule R904). -/
theorem Memory.read_reset_cart (hk : k < 0x8000 ∨ 0xA000 ≤ k ∧ k < 0xC000) :
    Cells.read (Memory.reset ram m) k = Cells.read m k := by
  have hram : (inWram k || inHram k) = false := by simp [inWram, inHram]; omega
  rw [Memory.reset, Cells.read_overlay_of_not_keep hram, Cells.read_restrict,
    if_pos ((inCart_iff k).mpr hk)]

end

/-! Registers. -/

/-- The register pairs (rule R901). -/
theorem Cpu.reset_pairs : ∀ fast : Bool,
    (Cpu.reset fast).af = (if fast then 0x01B0#16 else 0x0000#16) ∧
    (Cpu.reset fast).bc = (if fast then 0x0013#16 else 0x0000#16) ∧
    (Cpu.reset fast).de = (if fast then 0x00D8#16 else 0x0000#16) ∧
    (Cpu.reset fast).hl = (if fast then 0x014D#16 else 0x0000#16) := by decide

/-- IF and IE as they read (rule R902). -/
theorem Interrupts.reset_reads : ∀ fast : Bool,
    Interrupts.reads (Interrupts.reset fast).ifr = (if fast then 0xE1#8 else 0xE0#8) ∧
    Interrupts.reads (Interrupts.reset fast).ie = 0xE0#8 := by decide

theorem Serial.reset_readSc (input : Byte) (out : List Byte) :
    (Serial.reset input out).readSc = 0x7E#8 := by
  simp [Serial.readSc, Serial.reset]

theorem Timer.reset_div (p : Params) (fast : Bool) :
    (Timer.reset p fast).div = if fast then p.fastbootDivCounter.hi else 0x00#8 := by
  cases fast <;> simp [Timer.div, Timer.reset, Word.hi]

theorem Timer.reset_readTac (p : Params) (fast : Bool) : (Timer.reset p fast).readTac = 0xF8#8 := by
  simp [Timer.readTac, Timer.reset]

/-- With no key held P1[3:0] reads high (rule R870). -/
theorem Joypad.reset_readP1 : (Joypad.reset 0x00#8).readP1 = 0xCF#8 := by decide

/-- The PPU at line 0, dot 0: LY agrees with LYC, and the mode is 2 after a fast boot (rules R121, R902). -/
theorem Ppu.reset_readStat {p : Params} (fast : Bool) (hl : p.fastbootLine = 0)
    (hm : p.fastbootMode = .oamScan) :
    (Ppu.reset p fast).readStat = (if fast then 0x86#8 else 0x84#8) ∧
    (Ppu.reset p fast).readLy = 0x00#8 := by
  have hly : (Ppu.reset p fast).ly = 0 := by
    rw [Ppu.ly_eq]
    cases fast <;> simp [Ppu.reset, hl]
  have hmode : (Ppu.reset p fast).mode = if fast then .oamScan else .hblank := hm ▸ rfl
  have hsel : (Ppu.reset p fast).statSel = 0#4 := rfl
  have hlyc : (Ppu.reset p fast).lyc = 0x00#8 := rfl
  unfold Ppu.readStat Ppu.coincidence Ppu.readLy
  rw [hly, hmode, hsel, hlyc]
  cases fast <;> decide

/-- Settles O56: the registers as they read, one by one, and memory by its ranges. -/
theorem resetValues : Obligations.ResetValues := by
  unfold Obligations.ResetValues
  intro fast ram s t pick
  have hd : t.dma.active = false := rfl
  have reg {a : Word} {v : Byte} (ha : 0xFF00 ≤ a.toNat ∧ a.toNat < 0xFF80)
      (hv : t.ioRead a.toNat = v) : (t.busRead a).1 = v :=
    congrArg Prod.fst (State.busRead_reg hd ha hv)
  have hboth (v : Byte) : v = pick v v := (ite_self v).symm
  obtain ⟨haf, hbc, hde, hhl⟩ := Cpu.reset_pairs fast
  obtain ⟨hif, hie⟩ := Interrupts.reset_reads fast
  refine ⟨haf, hbc, hde, hhl, rfl, rfl, rfl, rfl, rfl, rfl, rfl, rfl, ?_, fun hin => ?_,
    fun hl _ hm => ?_, fun k hk => Memory.read_reset_video ram s.mem hk,
    fun k hk => Memory.read_reset_ram ram s.mem hk, rfl, rfl,
    fun k hk => Memory.read_reset_cart ram s.mem hk, hd, rfl, rfl, rfl, rfl, rfl, rfl, rfl, rfl,
    rfl, rfl, rfl, rfl, rfl, rfl, rfl, rfl⟩
  · simp only [List.forall_mem_cons]
    exact ⟨reg (by decide) (hboth 0x00#8),
      reg (by decide) ((Serial.reset_readSc _ _).trans (hboth _)),
      reg (by decide) (Timer.reset_div _ fast), reg (by decide) (hboth 0x00#8),
      reg (by decide) (hboth 0x00#8), reg (by decide) ((Timer.reset_readTac _ fast).trans (hboth _)),
      reg (by decide) hif, reg (by decide) rfl, reg (by decide) (hboth 0x00#8),
      reg (by decide) (hboth 0x00#8), reg (by decide) (hboth 0x00#8), reg (by decide) rfl,
      reg (by decide) rfl, reg (by decide) rfl, reg (by decide) rfl, reg (by decide) (hboth 0x00#8),
      reg (by decide) (hboth 0x00#8),
      ((congrArg Prod.fst (State.busRead_ie hd rfl)).trans hie).trans (hboth _),
      fun x hx => absurd hx List.not_mem_nil⟩
  · refine reg (by decide) ((congrArg Joypad.readP1 ?_).trans Joypad.reset_readP1)
    exact congrArg Joypad.reset hin
  · obtain ⟨hstat, hly⟩ := Ppu.reset_readStat (p := s.params) fast hl hm
    exact ⟨reg (by decide) hstat, reg (by decide) hly⟩

end Sys2Proof.Machine
end
